-- ==== Sys2Proof/Word.lean ====
section
/-! DEFINITION. The unit's word types (00_scope.md R6, R7, R8) and the content of its request register (10_state.md R19). -/

namespace Sys2Proof

/-- An operand, a LUT entry or a 32-bit working value (R6, R7). Bit i weighs 2^i (R8). -/
abbrev Word := BitVec 32

/-- A product or a response: 64 bits (R6, R7). -/
abbrev DWord := BitVec 64

/-- A request bundle, `op` in bits 65:64, `a` in 63:32, `b` in 31:0 (30_encoding.md R50). -/
abbrev Bundle := BitVec 66

/-- The lookup table's contents: 32 entries of 32 bits (10_state.md R20). -/
abbrev Rom := Vector Word 32

/-- What one request transfer moves, and what `REQ` holds: `{op:2, a:32, b:32}` (10_state.md R19, 20_memory.md R42). -/
structure Request where
  op : BitVec 2
  a  : Word
  b  : Word
  deriving DecidableEq, Repr

end Sys2Proof
end

