-- ==== Sys2Proof/Config.lean ====
section
/-! DEFINITION. What an implementation of the unit fixes and the spec leaves open (00_scope.md R7): the latency and its
bound. Both are opaque, so no proof can see a value of either. The third parameter, `RSQRT_TABLE`, is the field
`table` of State; its default stands in Machine/Lut.lean. -/

namespace Sys2Proof

/-- One less than `LAT_MAX`; free (10_state.md R34, 93_implementation_defined.md X3). -/
opaque Config.latMaxPred : Nat

/-- `LAT_MAX`, the finite bound on the edges of one transaction in BUSY: any number that is at least 1 (R34). -/
def Config.latMax : Nat := Config.latMaxPred + 1

/-- The raw latency draw: a free value for each draw and request (R34, X2; Log 3). `latency` brings it into [1, `LAT_MAX`]. -/
opaque Config.latDraw : Nat → Request → Nat

end Sys2Proof
end

