-- ==== Sys2Proof/Syntax.lean ====
section
/-! DEFINITION. The command set (30_encoding.md R52): one constructor for each row of spec/opcode_table.json. The
reserved value 0b11 is no instruction; the decoder rejects it by name. -/

namespace Sys2Proof

/-- An operation with the operands its request carries. Every request carries both (R50); CLZ and RSQRT ignore `b`
(R54), and it is kept here so that encoding loses no bit. -/
inductive Instr where
  /-- MUL32, op 0b00 (40_mul32.md R59). -/
  | mul32 (a b : Word)
  /-- CLZ, op 0b01 (41_clz.md R65). -/
  | clz (a b : Word)
  /-- RSQRT, op 0b10, x = `a` (42_rsqrt.md R71). -/
  | rsqrt (a b : Word)
  deriving DecidableEq, Repr

end Sys2Proof
end

