-- ==== Sys2Proof/WellFormed.lean ====
section
/-! DEFINITION. Well-formedness: of an instruction, of a request (30_encoding.md R56) and of the parameter `RSQRT_TABLE`
(10_state.md R21). -/

namespace Sys2Proof

/-- Every operand value is legal for every operation: "No `op` value and no operand value is illegal in any other way"
(R56). The operands' widths are in their types. -/
def Instr.wf : Instr → Bool
  | .mul32 _ _ => true
  | .clz _ _ => true
  | .rsqrt _ _ => true

/-- The request is one a requester may issue: its `op` is not the reserved 0b11 (R56). -/
def Request.wf (r : Request) : Bool := r.op != 3#2

/-- First check of R21: exactly 32 entries. -/
def tableLengthOk (raw : List Nat) : Bool := raw.length == 32

/-- Second check of R21: each entry is in [0, 2^32 − 1]. -/
def tableEntriesOk (raw : List Nat) : Bool := raw.all (· < 2 ^ 32)

/-- Third check of R21: the entries are strictly decreasing in the index. -/
def strictlyDecreasing : List Nat → Bool
  | [] => true
  | [_] => true
  | a :: b :: rest => decide (b < a) && strictlyDecreasing (b :: rest)

/-- Well-formedness of a list offered as `RSQRT_TABLE` (R21). -/
def tableWf (raw : List Nat) : Bool :=
  tableLengthOk raw && tableEntriesOk raw && strictlyDecreasing raw

/-- Well-formedness of a ROM: the length and the width are in its type, the order is checked (R21). -/
def Rom.wf (t : Rom) : Bool := strictlyDecreasing (t.toList.map BitVec.toNat)

/-- The ROM that an offered table fills, if it passes R21. -/
def romOfTable (raw : List Nat) : Option Rom :=
  if tableWf raw then some (Vector.ofFn fun i => BitVec.ofNat 32 (raw.getD i.val 0)) else none

end Sys2Proof
end

