-- ==== Sys2Proof/Decode.lean ====
section
/-! DEFINITION. The request format and the operation field (30_encoding.md R50 to R57): the decoder, total on every
number and rejecting by name, and the encoder. There is no byte order to choose (20_memory.md R40): a request is one
66-bit bundle. -/

namespace Sys2Proof

/-- Why a number is no instruction. -/
inductive DecodeReject where
  /-- The operation field holds the reserved value 0b11 (R56). -/
  | reservedOp
  /-- The number has a bit above bit 65, so it is no request bundle (R57). -/
  | notABundle
  deriving DecidableEq, Repr

/-- Bits 65:64 (R50). -/
def bundleOp (w : Bundle) : BitVec 2 := w.extractLsb' 64 2

/-- Bits 63:32 (R50). -/
def bundleA (w : Bundle) : Word := w.extractLsb' 32 32

/-- Bits 31:0 (R50). -/
def bundleB (w : Bundle) : Word := w.extractLsb' 0 32

/-- The three request ports that a bundle stands for (R50). -/
def requestOfBundle (w : Bundle) : Request := ⟨bundleOp w, bundleA w, bundleB w⟩

/-- `bundle = {req_op, req_a, req_b}` (R50). -/
def bundleOfRequest (r : Request) : Bundle := r.op ++ r.a ++ r.b

/-- The decoder, by `op` alone (R52, R53); operands are taken whole (R54, R55). -/
def decodeRequest (r : Request) : Except DecodeReject Instr :=
  if r.op = 0b00#2 then .ok (.mul32 r.a r.b)
  else if r.op = 0b01#2 then .ok (.clz r.a r.b)
  else if r.op = 0b10#2 then .ok (.rsqrt r.a r.b)
  else .error .reservedOp

/-- Decoding a bundle. -/
def decode (w : Bundle) : Except DecodeReject Instr := decodeRequest (requestOfBundle w)

/-- Decoding any number: only a 66-bit one is a bundle (R57). -/
def decodeNumber (n : Nat) : Except DecodeReject Instr :=
  if n < 2 ^ 66 then decode (BitVec.ofNat 66 n) else .error .notABundle

/-- The instruction the decoder reads from an instruction whose bits, numbered as the opcode table numbers them, are
`w`; bits at `nbits` and above are 0. -/
def decodeTableWord (nbits w : Nat) : Option Instr :=
  match decodeNumber (w % 2 ^ nbits) with
  | .ok i => some i
  | .error _ => none

/-- The encoder, from the rows of R52 and the layout of R50. -/
def encode : Instr → Bundle
  | .mul32 a b => 0b00#2 ++ a ++ b
  | .clz a b => 0b01#2 ++ a ++ b
  | .rsqrt a b => 0b10#2 ++ a ++ b

end Sys2Proof
end

