-- ==== Sys2Proof/Machine/Lut.lean ====
section
/-! DEFINITION. The lookup table: its default contents (10_state.md R22) and its one access, the read (20_memory.md R38). -/

namespace Sys2Proof.Machine

/-- The default `RSQRT_TABLE`: round(65536 / √(2^e)) for e = 0..31, the literals of R22. -/
def defaultTable : Rom :=
  #v[65536, 46341, 32768, 23170, 16384, 11585, 8192, 5793, 4096, 2896, 2048, 1448, 1024, 724, 512, 362,
     256, 181, 128, 91, 64, 45, 32, 23, 16, 11, 8, 6, 4, 3, 2, 1]

/-- `TABLE[i]` for i in 0..31: entry i, with no side effect (R38). A 5-bit index is always in range (R39). -/
def lutRead (t : Rom) (i : BitVec 5) : Word := t.get i.toFin

end Sys2Proof.Machine
end

