-- ==== Sys2Proof/Machine/State.lean ====
section
/-! DEFINITION. The state of the unit (10_state.md section 3) and of its requester (R17), the reset state (R31), and the
reasons a step can stop. All of it is plain data. -/

namespace Sys2Proof.Machine

/-- The phase register (10_state.md R18). -/
inductive Phase where
  /-- No transaction held. -/
  | idle
  /-- A request is accepted and its response is not yet ready. -/
  | busy
  /-- The response is ready and not yet taken. -/
  | done
  deriving DecidableEq, Repr

/-- The values on the unit's input ports at one rising edge of `clk` (10_state.md R14, R33). -/
structure Inputs where
  rst      : Bool
  reqValid : Bool
  reqOp    : BitVec 2
  reqA     : Word
  reqB     : Word
  rspReady : Bool
  deriving DecidableEq, Repr

/-- Everything the spec gives the unit, and what the requester is about to do. -/
structure State where
  /-- `phase` (R18). -/
  phase    : Phase
  /-- `REQ` (R19); `none` is the spec's "no value". -/
  req      : Option Request
  /-- `RSP` (R25); `none` is the spec's "no value". -/
  rsp      : Option DWord
  /-- `TABLE[0..31]`, a ROM (R20); its contents are the parameter `RSQRT_TABLE` (R21). -/
  table    : Rom
  /-- The requester's drives at the coming edges, oldest first (R17(b); Log 1). -/
  inputs   : List Inputs
  /-- The offer the requester has to keep (70_reset_and_hazards.md R109; Log 5). -/
  held     : Option Request
  /-- Edges still to spend in BUSY, counting the completing one: the completion draw of R34 (Log 3). -/
  busyLeft : Nat
  /-- How many latencies have been drawn; it makes each draw a fresh free value (Log 4). -/
  draws    : Nat
  deriving DecidableEq, Repr

/-- Why the machine faults. The unit itself reports no error (60_exceptions.md R90). -/
inductive Fault where
  /-- Raised by the completion step when `phase` is BUSY and `REQ` holds no value, which contradicts R19. No run
  reaches such a state. Safe. -/
  | busyWithoutRequest
  deriving DecidableEq, Repr

/-- Why the model gives a step no meaning. -/
inductive Refusal where
  /-- Raised by `exec` for an instruction that has no meaning yet; no arm raises it now. Safe. -/
  | notModelled (mnemonic : String)
  /-- Raised by the completion step for the reserved op 0b11: the spec's `refuse(ReservedOp)` (R56, X1). Safe. -/
  | reservedOp
  /-- Raised at an edge where the requester withdraws or changes a request it has to keep: the spec gives such a
  requester no move (R109, X16). Unsafe for a requester that breaks the duty, as R109 says itself. -/
  | requestChanged
  /-- Raised at every edge of a unit whose `RSQRT_TABLE` is not strictly decreasing (R21, X15). Safe. -/
  | malformedTable
  deriving DecidableEq, Repr

/-- The state after a reset edge (R31), with the default table (R22). The requester's coming drives are not the unit's:
the list is empty (Log 1). -/
def State.reset : State where
  phase    := .idle
  req      := none
  rsp      := none
  table    := defaultTable
  inputs   := []
  held     := none
  busyLeft := 0
  draws    := 0

end Sys2Proof.Machine
end

