-- ==== Sys2Proof/Machine/Ops.lean ====
section
/-! DEFINITION. The named operations on the state: one for each assignment block of the step (10_state.md R33), and what
is sampled at an edge. The unit takes no trap (60_exceptions.md R95), so there is no exception entry and no return; its
only change of control is the reset edge, `State.takeReset`. -/

namespace Sys2Proof.Machine

/-- The bundle on the request ports. -/
def Inputs.request (p : Inputs) : Request := ⟨p.reqOp, p.reqA, p.reqB⟩

/-- A requester with nothing new to do (Log 2): it keeps an outstanding offer (70_reset_and_hazards.md R109) and takes a
response that is offered (R110). -/
def quietInputs (held : Option Request) : Inputs :=
  match held with
  | none => ⟨false, false, 0, 0, 0, true⟩
  | some r => ⟨false, true, r.op, r.a, r.b, true⟩

/-- The input values sampled at this edge (R13, R33). -/
def State.sampled (s : State) : Inputs := s.inputs.headD (quietInputs s.held)

/-- The requester's duty at an edge with `rst = 0`: an offer made and not yet accepted is still there, unchanged (R109). -/
def State.dutyKept (s : State) (p : Inputs) : Bool :=
  match s.held with
  | none => true
  | some r => p.reqValid && (p.request == r)

/-- The offer that stands over after an edge with `rst = 0`: made while `req_ready = 0`, that is outside IDLE (R109, R30). -/
def State.offerAfter (s : State) (p : Inputs) : Option Request :=
  if p.reqValid && (s.phase != .idle) then some p.request else none

/-- The edge passes: the sampled drives are gone. -/
def State.consumeEdge (s : State) : State := { s with inputs := s.inputs.tail }

/-- The edge with `rst = 0` passes for the requester: its drives are gone and its standing offer is noted. -/
def State.passEdge (s : State) (p : Inputs) : State :=
  { s with inputs := s.inputs.tail, held := s.offerAfter p }

/-- The reset edge (70_reset_and_hazards.md R105): IDLE, `REQ` and `RSP` without a value, `TABLE` unchanged. A standing
offer is forgotten, since the duty does not apply across a reset edge (R109). -/
def State.takeReset (s : State) : State :=
  { s with phase := .idle, req := none, rsp := none, held := none, busyLeft := 0 }

/-- The latency of a transaction: a free value in [1, `LAT_MAX`] (10_state.md R34; Log 3). -/
def latency (n : Nat) (r : Request) : Nat := Config.latDraw n r % Config.latMax + 1

/-- The request transfer (R33): `REQ <- {req_op, req_a, req_b}`, `phase <- BUSY`. Its latency is drawn here. -/
def State.acceptRequest (s : State) (r : Request) : State :=
  { s with phase := .busy, req := some r, busyLeft := latency s.draws r, draws := s.draws + 1 }

/-- The completion draw `fin` of this edge (R34): true at the last edge of the transaction in BUSY. -/
def State.fin (s : State) : Bool := decide (s.busyLeft ≤ 1)

/-- An edge in BUSY at which `fin` is false: only the model's count of edges moves. -/
def State.wait (s : State) : State := { s with busyLeft := s.busyLeft - 1 }

/-- The completion (R33): `RSP <- v`, `REQ <- no value`, `phase <- DONE`. The one operation that writes `RSP` (R25). -/
def State.complete (s : State) (v : DWord) : State :=
  { s with phase := .done, req := none, rsp := some v, busyLeft := 0 }

/-- The response transfer (R33): `RSP <- no value`, `phase <- IDLE`. -/
def State.releaseResponse (s : State) : State := { s with phase := .idle, rsp := none }

/-- A request already accepted whose completion is drawn at the coming edge, at which the requester does nothing new
(Log 13). -/
def State.placeRequest (s : State) (r : Request) : State :=
  { s with phase := .busy, req := some r, rsp := none, busyLeft := 1, inputs := quietInputs s.held :: s.inputs }

/-- The unit built with the table `raw`, right after reset: a table that breaks R21 is refused. -/
def State.launch (raw : List Nat) : Host.Outcome State Fault Refusal :=
  match romOfTable raw with
  | some t => .next { State.reset with table := t }
  | none => .refused .malformedTable

end Sys2Proof.Machine
end

