-- ==== Sys2Proof/Machine/Operands.lean ====
section
/-! DEFINITION. Operands and results. The unit has one operand form, a whole 32-bit word from a request port
(30_encoding.md R54, R55), and zero-extends what is narrower than the response (R55). The operand forms of the spec's
program notation (R58) are the requester's. -/

namespace Sys2Proof.Machine

/-- `zext_64` of a 32-bit value (00_scope.md R10). -/
def zext64 (w : Word) : DWord := w.setWidth 64

/-- `bits[31:0]` of a 64-bit value (R10). -/
def low32 (v : DWord) : Word := v.setWidth 32

/-- `bits[63:32]` of a 64-bit value (R10). -/
def high32 (v : DWord) : Word := v.extractLsb' 32 32

/-- The packing of a CLZ result: the count in bits 5:0, zeros above (R55). -/
def packCount (c : BitVec 6) : DWord := c.setWidth 64

/-- An operand as R58 spells it. -/
inductive SpelledOperand where
  /-- A 32-bit literal. -/
  | literal (v : Word)
  /-- `r<k>`: bits 31:0 of the k-th response of the program, k from 1. -/
  | low (k : Nat)
  /-- `r<k>.hi`: bits 63:32 of it. -/
  | high (k : Nat)
  deriving DecidableEq, Repr

/-- The k-th response, counting from 1. -/
def nthResponse (responses : List DWord) : Nat → Option DWord
  | 0 => none
  | k + 1 => responses[k]?

/-- The value the requester computes for an operand from the responses it has taken so far (R58). -/
def SpelledOperand.value (responses : List DWord) : SpelledOperand → Option Word
  | .literal v => some v
  | .low k => (nthResponse responses k).map low32
  | .high k => (nthResponse responses k).map high32

/-- A line of a program as R58 spells it: exactly one request, or a reset. -/
inductive SpelledLine where
  | mul32 (a b : SpelledOperand)
  | clz (a : SpelledOperand)
  | rsqrt (a : SpelledOperand)
  | reset
  deriving DecidableEq, Repr

/-- The request a line stands for; `clz` and `rsqrt` are spelled with b = 0 (R58). A reset line is no request. -/
def SpelledLine.request (responses : List DWord) : SpelledLine → Option Instr
  | .mul32 a b => (a.value responses).bind fun x => (b.value responses).map fun y => .mul32 x y
  | .clz a => (a.value responses).map fun x => .clz x 0
  | .rsqrt a => (a.value responses).map fun x => .rsqrt x 0
  | .reset => none

end Sys2Proof.Machine
end

