-- ==== Sys2Proof/Machine/Clz.lean ====
section
/-! DEFINITION. CLZ (41_clz.md). -/

namespace Sys2Proof.Machine

/-- The largest i below `n` with bit i of `a` set, if there is one (R65). -/
def highestSetBelow (a : Word) : Nat → Option Nat
  | 0 => none
  | n + 1 => if a.getLsbD n then some n else highestSetBelow a n

/-- `CLZ(a)`: 32 for 0, else 31 − p for the highest set bit p (R65). -/
def countLeadingZeros (a : Word) : BitVec 6 :=
  match highestSetBelow a 32 with
  | none => 32
  | some p => BitVec.ofNat 6 (31 - p)

/-- CLZ completes with the zero-extended count (R55, R65); `req_b` is ignored (R54). -/
def execClz (a _b : Word) (s : State) : Host.Outcome State Fault Refusal := .next (s.complete (packCount (countLeadingZeros a)))

end Sys2Proof.Machine
end

