-- ==== Sys2Proof/Machine/Mul32.lean ====
section
/-! DEFINITION. MUL32 (40_mul32.md). -/

namespace Sys2Proof.Machine

/-- `MUL32(a, b) = a * b`, exact in 64 bits (R59). RSQRT forms its products with it too (R63). -/
def product (a b : Word) : DWord := BitVec.ofNat 64 (a.toNat * b.toNat)

/-- MUL32 completes with the whole product as its response (R55, R59). -/
def execMul32 (a b : Word) (s : State) : Host.Outcome State Fault Refusal := .next (s.complete (product a b))

end Sys2Proof.Machine
end

