-- ==== Sys2Proof/Machine/Rsqrt.lean ====
section
/-! DEFINITION. RSQRT (42_rsqrt.md): the steps R72 to R84 in the spec's order, one definition for each. -/

namespace Sys2Proof.Machine

/-- `e = 31 − CLZ(x)` (R74). -/
def exponent (x : Word) : BitVec 5 := BitVec.ofNat 5 (31 - (countLeadingZeros x).toNat)

/-- The interpolation runs: `x > 2^e` (R76). -/
def interpolates (x : Word) : Bool := decide (2 ^ (exponent x).toNat < x.toNat)

/-- `y_next`: the next entry, or 0 at the top of the table (R77). -/
def nextEntry (t : Rom) (e : BitVec 5) : Word := if e.toNat < 31 then lutRead t (e + 1) else 0

/-- `delta = (y − y_next) mod 2^32` with `y = TABLE[e]` (R75, R78). -/
def entryDelta (t : Rom) (e : BitVec 5) : Word := lutRead t e - nextEntry t e

/-- `frac = bits[31:0](((zext_64(x) − 2^e) << 16) >> e)`, in 64 bits (R79). -/
def fraction (x : Word) (e : BitVec 5) : Word := low32 (((zext64 x - (1#64 <<< e.toNat)) <<< 16) >>> e.toNat)

/-- `bits[31:0](MUL32(delta, frac) >> 16)` (R80). -/
def correction (t : Rom) (x : Word) : Word :=
  low32 (product (entryDelta t (exponent x)) (fraction x (exponent x)) >>> 16)

/-- The estimate before the Newton iterations (R75 to R80). -/
def estimate (t : Rom) (x : Word) : Word :=
  if interpolates x then lutRead t (exponent x) - correction t x else lutRead t (exponent x)

/-- `y2 = bits[31:0](MUL32(y, y))` (R81). -/
def newtonY2 (y : Word) : Word := low32 (product y y)

/-- `xy2 = bits[31:0](MUL32(x, y2) >> 16)` (R82). -/
def newtonXy2 (x y : Word) : Word := low32 (product x (newtonY2 y) >>> 16)

/-- `s = (0x00030000 − xy2) mod 2^32` (R83). -/
def newtonFactor (x y : Word) : Word := 0x00030000#32 - newtonXy2 x y

/-- One Newton iteration: `y <- bits[31:0](MUL32(y, s) >> 17)` (R83). -/
def newtonStep (x y : Word) : Word := low32 (product y (newtonFactor x y) >>> 17)

/-- `RSQRT(x)` (R71): the two special cases (R72, R73), then the estimate and exactly two iterations (R84). -/
def rsqrt (t : Rom) (x : Word) : Word :=
  if x = 0 then 0xFFFFFFFF#32
  else if x = 1 then 0x00010000#32
  else newtonStep x (newtonStep x (estimate t x))

/-- RSQRT completes with the zero-extended result (R55, R71); `req_b` is ignored (R54). -/
def execRsqrt (a _b : Word) (s : State) : Host.Outcome State Fault Refusal := .next (s.complete (zext64 (rsqrt s.table a)))

end Sys2Proof.Machine
end

