-- ==== Sys2Proof/Machine/Dispatch.lean ====
section
/-! DEFINITION. One arm for each instruction. -/

namespace Sys2Proof.Machine

/-- The completion of a transaction whose request decodes to `i` (10_state.md R33, 30_encoding.md R53). -/
def exec (i : Instr) (s : State) : Host.Outcome State Fault Refusal :=
  match i with
  | .mul32 a b => Sys2Proof.Machine.execMul32 a b s
  | .clz a b => Sys2Proof.Machine.execClz a b s
  | .rsqrt a b => Sys2Proof.Machine.execRsqrt a b s

end Sys2Proof.Machine
end

