-- ==== Sys2Proof/Machine/Flags.lean ====
section
/-! DEFINITION. The unit has no flags and no status register (10_state.md R26, R27). What it shows of its status is its
outputs, functions of the state and of `rst` (R30), and the transfers they define (R15). -/

namespace Sys2Proof.Machine

/-- `req_ready = (phase = IDLE) and (rst = 0)` (R30). -/
def State.reqReady (s : State) (rst : Bool) : Bool := (s.phase == .idle) && !rst

/-- `rsp_valid = (phase = DONE) and (rst = 0)` (R30). -/
def State.rspValid (s : State) (rst : Bool) : Bool := (s.phase == .done) && !rst

/-- `rsp_data`: `RSP` in DONE, no value otherwise (R30). -/
def State.rspData (s : State) : Option DWord :=
  match s.phase with
  | .done => s.rsp
  | .idle => none
  | .busy => none

/-- A request transfer happens at this edge (R15). -/
def State.requestTransfer (s : State) (p : Inputs) : Bool := !p.rst && p.reqValid && s.reqReady p.rst

/-- A response transfer happens at this edge (R15). -/
def State.responseTransfer (s : State) (p : Inputs) : Bool := !p.rst && s.rspValid p.rst && p.rspReady

end Sys2Proof.Machine
end

