-- ==== Sys2Proof/Machine/Edge.lean ====
section
/-! DEFINITION. One rising edge of `clk` (10_state.md R33), block by block. -/

namespace Sys2Proof.Machine

/-- An edge with `rst = 0` in IDLE: accept an offered request. `req_ready` does not look at `req_op`, so the reserved op
is accepted too (30_encoding.md R56). -/
def edgeIdle (p : Inputs) (s : State) : Host.Outcome State Fault Refusal :=
  if p.reqValid then .next (s.acceptRequest p.request) else .next s

/-- The completion step: run the instruction that `REQ` holds, or refuse the reserved op (R33, R56). -/
def completion (s : State) : Host.Outcome State Fault Refusal :=
  match s.req with
  | none => .fault .busyWithoutRequest
  | some r =>
    match decodeRequest r with
    | .ok i => exec i s
    | .error _ => .refused .reservedOp

/-- An edge with `rst = 0` in BUSY: complete if `fin`, else stay (R33, R34). -/
def edgeBusy (s : State) : Host.Outcome State Fault Refusal :=
  if s.fin then completion s else .next s.wait

/-- An edge with `rst = 0` in DONE: hand over the response if it is taken (R33). -/
def edgeDone (p : Inputs) (s : State) : Host.Outcome State Fault Refusal :=
  if p.rspReady then .next s.releaseResponse else .next s

/-- An edge with `rst = 0`, by phase. -/
def edgePhase (p : Inputs) (s : State) : Host.Outcome State Fault Refusal :=
  match s.phase with
  | .idle => edgeIdle p s
  | .busy => edgeBusy s
  | .done => edgeDone p s

/-- One rising edge with the inputs `p` sampled: reset first (R94), then the requester's duty (R109), then the phase. A
unit whose table breaks R21 is refused. -/
def edge (p : Inputs) (s : State) : Host.Outcome State Fault Refusal :=
  if s.table.wf then
    if p.rst then .next s.consumeEdge.takeReset
    else if s.dutyKept p then edgePhase p (s.passEdge p)
    else .refused .requestChanged
  else .refused .malformedTable

end Sys2Proof.Machine
end

