-- ==== Sys2Proof/Machine/Step.lean ====
section
/-! DEFINITION. The step: one rising edge of `clk` with the inputs the requester drives there (10_state.md R17, R33). -/

namespace Sys2Proof.Machine

/-- One rising edge of `clk`. -/
def step (s : State) : Host.Outcome State Fault Refusal := edge s.sampled s

/-- `s` with the instruction whose table bits are `w` accepted and its completion drawn at the coming edge, so that the
very next step runs it (Log 13). -/
def State.withFetchWord (s : State) (nbits w : Nat) : State :=
  s.placeRequest (requestOfBundle (BitVec.ofNat 66 (w % 2 ^ nbits)))

end Sys2Proof.Machine
end

