-- ==== Sys2Proof/Machine/Reference.lean ====
section
/-! DEFINITION. The spec's other descriptions of the three results, written beside the meanings so that the two can be
proved equal: the pseudocode in exact natural numbers (00_scope.md R9), the response function `EXEC` (30_encoding.md R53),
and the source's two mechanisms, which are not normative (40_mul32.md R60, 41_clz.md R66). The step uses none of them. -/

namespace Sys2Proof.Machine

/-- `EXEC(op, a, b)`: the response of a request, none for the reserved op (R53). -/
def responseValue (t : Rom) (r : Request) : Option DWord :=
  if r.op = 0b00#2 then some (product r.a r.b)
  else if r.op = 0b01#2 then some (packCount (countLeadingZeros r.a))
  else if r.op = 0b10#2 then some (zext64 (rsqrt t r.a))
  else none

/-- The accumulator of the shift-and-add multiplier after `i` bit positions (R60). -/
def shiftAddAfter (a b : Word) : Nat → DWord
  | 0 => 0
  | i + 1 => if b.getLsbD i then shiftAddAfter a b i + (zext64 a <<< i) else shiftAddAfter a b i

/-- The shift-and-add multiplier: all 32 bit positions (R60). -/
def shiftAdd (a b : Word) : DWord := shiftAddAfter a b 32

/-- One step of the count cascade: if the upper `k` bits are all zero, count them and shift them out (R66). -/
def cascadeStep (k : Nat) (nv : Nat × Word) : Nat × Word :=
  if nv.2 >>> (32 - k) = 0 then (nv.1 + k, nv.2 <<< k) else nv

/-- The binary-search cascade, with the zero test first (R66). -/
def clzCascade (a : Word) : Nat :=
  if a = 0 then 32 else (cascadeStep 1 (cascadeStep 2 (cascadeStep 4 (cascadeStep 8 (cascadeStep 16 (0, a)))))).1

/-- The estimate of R74 to R80 on naturals: `t i` is LUT entry i, and each truncation is a `%`. -/
def estimateNat (t : Nat → Nat) (x : Nat) : Nat :=
  let e := Nat.log2 x
  let y := t e
  if 2 ^ e < x then
    let yNext := if e < 31 then t (e + 1) else 0
    let delta := (2 ^ 32 + y - yNext) % 2 ^ 32
    let frac := (x - 2 ^ e) * 2 ^ 16 / 2 ^ e % 2 ^ 32
    (2 ^ 32 + y - delta * frac / 2 ^ 16 % 2 ^ 32) % 2 ^ 32
  else y

/-- One Newton iteration of R81 to R83 on naturals. -/
def newtonNat (x y : Nat) : Nat :=
  let y2 := y * y % 2 ^ 32
  let xy2 := x * y2 / 2 ^ 16 % 2 ^ 32
  let s := (2 ^ 32 + 0x00030000 - xy2) % 2 ^ 32
  y * s / 2 ^ 17 % 2 ^ 32

/-- `RSQRT` of R71 on naturals. -/
def rsqrtNat (t : Nat → Nat) (x : Nat) : Nat :=
  if x = 0 then 0xFFFFFFFF
  else if x = 1 then 0x00010000
  else newtonNat x (newtonNat x (estimateNat t x))

/-- LUT entry i of a ROM as a natural, for i in 0..31. -/
def entryNat (t : Rom) (i : Nat) : Nat := (lutRead t (BitVec.ofNat 5 i)).toNat

end Sys2Proof.Machine
end

