-- ==== Sys2Proof/Safety.lean ====
section
/-! DEFINITION. What claims are stated in: runs, the events of a run (10_state.md R15), the state invariant, the end of a
run (70_reset_and_hazards.md R117), and the requester's duties over a run (R109). -/

namespace Sys2Proof.Machine

/-- The state invariant: `REQ` holds a value exactly in BUSY (R19), `RSP` exactly in DONE (R25), the table is well formed
(R21), and the model's count of edges left in BUSY is in [1, `LAT_MAX`] there (R34) and 0 elsewhere. -/
structure Inv (s : State) : Prop where
  reqInBusy   : s.req.isSome = (s.phase == .busy)
  rspInDone   : s.rsp.isSome = (s.phase == .done)
  tableWf     : s.table.wf = true
  leftInBusy  : s.phase = .busy → 1 ≤ s.busyLeft ∧ s.busyLeft ≤ Config.latMax
  leftOutside : s.phase ≠ .busy → s.busyLeft = 0

/-- `k` edges, stopping at the first fault or refusal. A refusal stays for the rest of the run (30_encoding.md R56). -/
def runFor : Nat → State → Host.Outcome State Fault Refusal
  | 0, s => .next s
  | k + 1, s =>
    match step s with
    | .next s' => runFor k s'
    | .fault r => .fault r
    | .refused r => .refused r

/-- What an edge is to the requester: "Nothing passes between the requester and the unit at any other edge" (R15). -/
inductive Event where
  | reset
  | request (r : Request)
  | response (v : Option DWord)
  | quiet
  deriving DecidableEq, Repr

/-- The event of the coming edge. A response carries `rsp_data`. -/
def State.event (s : State) : Event :=
  if s.sampled.rst then .reset
  else if s.requestTransfer s.sampled then .request s.sampled.request
  else if s.responseTransfer s.sampled then .response s.rspData
  else .quiet

/-- The events of the first `k` edges, up to a fault or a refusal. -/
def events : Nat → State → List Event
  | 0, _ => []
  | k + 1, s =>
    match step s with
    | .next s' => s.event :: events k s'
    | .fault _ => []
    | .refused _ => []

/-- The requests transferred in a list of events, in order. -/
def requestsOf : List Event → List Request
  | [] => []
  | .request r :: es => r :: requestsOf es
  | .reset :: es => requestsOf es
  | .response _ :: es => requestsOf es
  | .quiet :: es => requestsOf es

/-- The responses transferred in a list of events, in order. -/
def responsesOf : List Event → List (Option DWord)
  | [] => []
  | .response v :: es => v :: responsesOf es
  | .reset :: es => responsesOf es
  | .request _ :: es => responsesOf es
  | .quiet :: es => responsesOf es

/-- The events after the last reset edge: a transaction in flight at a reset is dropped (R105). -/
def sinceReset : List Event → List Event → List Event
  | acc, [] => acc
  | _, .reset :: es => sinceReset [] es
  | acc, .request r :: es => sinceReset (acc ++ [.request r]) es
  | acc, .response v :: es => sinceReset (acc ++ [.response v]) es
  | acc, .quiet :: es => sinceReset (acc ++ [.quiet]) es

/-- The run of `k` edges from `s` ends well (R117): IDLE, every request since the last reset edge answered, no refusal. -/
def EndsWell (k : Nat) (s : State) : Prop :=
  ∃ t, runFor k s = .next t ∧ t.phase = .idle ∧
    (requestsOf (sinceReset [] (events k s))).length = (responsesOf (sinceReset [] (events k s))).length

/-- Over the first `n` edges from `s` there is no reset and the requester keeps its offers (R109). -/
def RequesterKeeps (n : Nat) (s : State) : Prop :=
  ∀ j u, j < n → runFor j s = .next u → u.sampled.rst = false ∧ u.dutyKept u.sampled = true

end Sys2Proof.Machine
end

