-- ==== Sys2Proof/Certificates/Slice0/Obligations.lean ====
section
/-! DEFINITION. The statements for the provers. Each docstring names the rule of spec/ it formalises, or says which part
of it is the model's own choice. -/

open Sys2Proof Sys2Proof.Machine

/-! ### Encoding (30_encoding.md) -/

/-- R50, R52: decoding and encoding are inverse, in both directions, for every instruction and every bundle. -/
def Obligations.DecodeInvertsEncode : Prop :=
  ∀ (w : Bundle) (i : Instr), decode w = .ok i ↔ encode i = w

/-- R53: every bundle decodes to exactly one of four cases, by `op` alone, and the completion of what it decodes to
responds `EXEC(op, a, b)`. -/
def Obligations.DecoderIsTotalByOp : Prop :=
  ∀ (w : Bundle) (s : State),
    (bundleOp w = 0#2 → decode w = .ok (.mul32 (bundleA w) (bundleB w)) ∧
      exec (.mul32 (bundleA w) (bundleB w)) s = .next (s.complete (product (bundleA w) (bundleB w)))) ∧
    (bundleOp w = 1#2 → decode w = .ok (.clz (bundleA w) (bundleB w)) ∧
      exec (.clz (bundleA w) (bundleB w)) s = .next (s.complete ((countLeadingZeros (bundleA w)).setWidth 64))) ∧
    (bundleOp w = 2#2 → decode w = .ok (.rsqrt (bundleA w) (bundleB w)) ∧
      exec (.rsqrt (bundleA w) (bundleB w)) s = .next (s.complete ((rsqrt s.table (bundleA w)).setWidth 64))) ∧
    (bundleOp w = 3#2 → decode w = .error .reservedOp ∧ responseValue s.table (requestOfBundle w) = none)

/-- 30_encoding.md sections 1, 2 and 4: a number decodes to an instruction exactly if it is below 0b11 followed by 64
zeros; above that, up to 66 bits, it is the reserved op. That a number of more than 66 bits is rejected by the name
notABundle is the model's own clause (Log 15, DEDUCED: the spec's request is 66 bits long and no other length exists). -/
def Obligations.NumbersDecodeOrAreRejectedByName : Prop :=
  ∀ n : Nat,
    (n < 3 * 2 ^ 64 → ∃ i, decodeNumber n = .ok i ∧ (encode i).toNat = n) ∧
    (3 * 2 ^ 64 ≤ n → n < 2 ^ 66 → decodeNumber n = .error .reservedOp) ∧
    (2 ^ 66 ≤ n → decodeNumber n = .error .notABundle)

/-- Bundles that the spec writes out decode to the requests they stand for: the worked examples of R50 and R59, of R65 and
of R71, the CLZ bundle with a nonzero b of 95_test_vectors.md section 3, and the reserved bundle of program P5 there
(section 7; 30_encoding.md sections 2 and 4). -/
def Obligations.SpecBundlesDecode : Prop :=
  decode 0x0123456789ABCDEF0 = .ok (.mul32 0x12345678 0x9ABCDEF0) ∧
  decode 0x10001234500000000 = .ok (.clz 0x12345 0) ∧
  decode 0x100000000DEADBEEF = .ok (.clz 0 0xDEADBEEF) ∧
  decode 0x20000006400000000 = .ok (.rsqrt 100 0) ∧
  decode 0x30000000000000000 = .error .reservedOp

/-! ### Results (40_mul32.md, 41_clz.md, 42_rsqrt.md) -/

/-- R59, R55: MUL32 completes for all operands and every state; its response is the exact 64-bit product, and nothing
else of the state changes than `phase`, `REQ`, `RSP` and the model's count. -/
def Obligations.Mul32CompletesWithExactProduct : Prop :=
  ∀ (a b : Word) (s : State), ∃ v : DWord, v.toNat = a.toNat * b.toNat ∧
    exec (.mul32 a b) s = .next { s with phase := .done, req := none, rsp := some v, busyLeft := 0 }

/-- R65, R55: CLZ completes for all operands and every state; its response is 32 for 0 and 31 − p for the highest set bit
p, with bits 63:6 zero; frame as for MUL32. -/
def Obligations.ClzCompletesWithTheCount : Prop :=
  ∀ (a b : Word) (s : State), ∃ v : DWord,
    (a = 0 → v = 32) ∧
    (∀ p, p < 32 → a.getLsbD p = true → (∀ q, p < q → a.getLsbD q = false) → v.toNat = 31 - p) ∧
    v.extractLsb' 6 58 = 0 ∧
    exec (.clz a b) s = .next { s with phase := .done, req := none, rsp := some v, busyLeft := 0 }

/-- R71 to R84: RSQRT completes for all operands, every state and every table; its response is the pseudocode's value in
exact naturals with the truncations the rules write, zero-extended; frame as for MUL32. -/
def Obligations.RsqrtCompletesWithThePseudocodeValue : Prop :=
  ∀ (a b : Word) (s : State), ∃ v : DWord, v.toNat = rsqrtNat (entryNat s.table) a.toNat ∧ v.extractLsb' 32 32 = 0 ∧
    exec (.rsqrt a b) s = .next { s with phase := .done, req := none, rsp := some v, busyLeft := 0 }

/-- R54: the response of CLZ and of RSQRT does not depend on `b`. -/
def Obligations.OperandBIsIgnored : Prop :=
  ∀ (a b b' : Word) (s : State), exec (.clz a b) s = exec (.clz a b') s ∧ exec (.rsqrt a b) s = exec (.rsqrt a b') s

/-- R62: the laws of MUL32. -/
def Obligations.Mul32Laws : Prop :=
  ∀ a b : Word,
    product a b = product b a ∧ product a 0 = 0 ∧ product a 1 = zext64 a ∧
    (∀ k, k < 32 → (product a (1#32 <<< k)).toNat = a.toNat * 2 ^ k) ∧
    (low32 (product a b)).toNat = a.toNat * b.toNat % 2 ^ 32 ∧
    ∀ k, (product a b >>> k).toNat = a.toNat * b.toNat / 2 ^ k

/-- R60, R61: the accumulator of the shift-and-add mechanism is exact at every bit position and bounded as R61 says, and
the mechanism gives MUL32's product. -/
def Obligations.ShiftAddAccumulatesTheProduct : Prop :=
  ∀ a b : Word,
    (∀ i, i ≤ 32 → (shiftAddAfter a b i).toNat = a.toNat * (b.toNat % 2 ^ i)) ∧
    (∀ i, i < 32 → (shiftAddAfter a b (i + 1)).toNat ≤ (2 ^ 32 - 1) * (2 ^ (i + 1) - 1)) ∧
    (∀ i, i < 32 → (2 ^ 32 - 1) * (2 ^ (i + 1) - 1) < 2 ^ 64) ∧
    shiftAdd a b = product a b

/-- R69: the cascade of R66 and the function of R65 agree on all inputs. -/
def Obligations.ClzCascadeAgrees : Prop :=
  ∀ a : Word, clzCascade a = (countLeadingZeros a).toNat

/-- R67: CLZ gives the position of the most significant set bit. -/
def Obligations.ClzLocatesTheHighestSetBit : Prop :=
  ∀ a : Word, a ≠ 0 →
    ∃ e, e + (countLeadingZeros a).toNat = 31 ∧ 2 ^ e ≤ a.toNat ∧ a.toNat < 2 ^ (e + 1) ∧ (2 ≤ a.toNat → 1 ≤ e)

/-- R68: the CLZ response is in [0, 32] and fits in bits 5:0. -/
def Obligations.ClzResponseInRange : Prop :=
  ∀ (a b : Word) (s : State), ∃ t v, exec (.clz a b) s = .next t ∧ t.rsp = some v ∧ v.toNat ≤ 32 ∧ v.extractLsb' 6 58 = 0

/-- R70: `CLZ(0) = 32` and the source's other two tests. -/
def Obligations.ClzSourceTests : Prop :=
  countLeadingZeros 0 = 32 ∧ countLeadingZeros 0x80000000 = 0 ∧ countLeadingZeros 1 = 31

/-- R72: RSQRT(0) is the sentinel, whatever the table and the state. -/
def Obligations.RsqrtOfZeroIsTheSentinel : Prop :=
  ∀ (b : Word) (s : State),
    exec (.rsqrt 0 b) s = .next { s with phase := .done, req := none, rsp := some 0xFFFFFFFF, busyLeft := 0 }

/-- R73: RSQRT(1) is 65536, whatever the table and the state. -/
def Obligations.RsqrtOfOneIsExact : Prop :=
  ∀ (b : Word) (s : State),
    exec (.rsqrt 1 b) s = .next { s with phase := .done, req := none, rsp := some 0x00010000, busyLeft := 0 }

/-- R79: the interpolation fraction is the floor of the scaled distance from 2^e, nothing is lost in 64 bits, and it is 0
for the operands the rule names. -/
def Obligations.FractionIsTheScaledDistance : Prop :=
  ∀ x : Word, 2 ≤ x.toNat → ∀ e : BitVec 5, e = exponent x → 2 ^ e.toNat < x.toNat →
    (x.toNat - 2 ^ e.toNat) * 2 ^ 16 < 2 ^ 47 ∧
    (fraction x e).toNat = (x.toNat - 2 ^ e.toNat) * 2 ^ 16 / 2 ^ e.toNat ∧
    (fraction x e).toNat ≤ 2 ^ 16 - 1 ∧
    (17 ≤ e.toNat → x.toNat - 2 ^ e.toNat < 2 ^ (e.toNat - 16) → fraction x e = 0)

/-- R39, R43: index 0 is never read, and RSQRT reads no entry but `TABLE[e]` and, for e < 31, `TABLE[e + 1]`: two tables
that agree there give the same result. -/
def Obligations.RsqrtReadsOnlyTwoEntries : Prop :=
  ∀ (t u : Rom) (x : Word),
    (∀ i : BitVec 5, 1 ≤ i.toNat → i.toNat = Nat.log2 x.toNat ∨ i.toNat = Nat.log2 x.toNat + 1 → lutRead t i = lutRead u i) →
    rsqrt t x = rsqrt u x

/-- R78, R80 for a well-formed table, with the case they overlook named (Log 11): when e < 31 or the last entry is not 0,
delta is at least 1 and does not wrap, the correction is smaller than delta, and the corrected estimate does not wrap and
is at least 1. -/
def Obligations.CorrectionIsBelowTheEstimate : Prop :=
  ∀ (t : Rom) (x : Word) (e : BitVec 5), t.wf = true → 2 ≤ x.toNat → e = exponent x → 2 ^ e.toNat < x.toNat →
    (e.toNat < 31 ∨ lutRead t 31 ≠ 0) →
    (entryDelta t e).toNat = (lutRead t e).toNat - (nextEntry t e).toNat ∧
    1 ≤ (entryDelta t e).toNat ∧
    (correction t x).toNat < (entryDelta t e).toNat ∧
    (entryDelta t e).toNat ≤ (lutRead t e).toNat ∧
    (estimate t x).toNat = (lutRead t e).toNat - (correction t x).toNat ∧
    1 ≤ (estimate t x).toNat

/-- Log 11: R78's remark that delta is at least 1 for every well-formed table is false for a table whose last entry is 0;
the model follows the rule's formula there. -/
def Obligations.DeltaCanBeZeroAtTheTop : Prop :=
  ∃ t : Rom, t.wf = true ∧ lutRead t 31 = 0 ∧ entryDelta t 31 = 0 ∧ estimate t 0xC0000000 = 0

/-- R77: the boundary policy, and what it gives with the default table: every x above 2^31 starts from y = 1. -/
def Obligations.TopOfTableStartsFromOne : Prop :=
  (∀ (t : Rom) (e : BitVec 5), (e.toNat < 31 → nextEntry t e = lutRead t (e + 1)) ∧ (e.toNat = 31 → nextEntry t e = 0)) ∧
  ∀ x : Word, 2 ^ 31 < x.toNat →
    entryDelta defaultTable (exponent x) = 1 ∧ correction defaultTable x = 0 ∧ estimate defaultTable x = 1

/-- R88 (a), R91: with the default table every x ≥ 2 gives a result in [1, 46341], so the sentinel is returned for x = 0
only and 65536 for x = 1 only. -/
def Obligations.DefaultResultsAreInRange : Prop :=
  (∀ x : Word, 2 ≤ x.toNat → 1 ≤ (rsqrt defaultTable x).toNat ∧ (rsqrt defaultTable x).toNat ≤ 46341) ∧
  (∀ x : Word, rsqrt defaultTable x = 0xFFFFFFFF ↔ x = 0) ∧
  (∀ x : Word, rsqrt defaultTable x = 0x00010000 ↔ x = 1)

/-- R88 (b), R81 to R83: with the default table no truncation of the two Newton iterations drops a set bit, and the
subtraction never wraps. -/
def Obligations.DefaultNewtonDropsNoBit : Prop :=
  ∀ (x y : Word), 2 ≤ x.toNat → (y = estimate defaultTable x ∨ y = newtonStep x (estimate defaultTable x)) →
    y.toNat ≤ 46341 ∧
    (newtonY2 y).toNat = y.toNat * y.toNat ∧
    (newtonXy2 x y).toNat = x.toNat * (y.toNat * y.toNat) / 2 ^ 16 ∧
    (newtonXy2 x y).toNat ≤ 0x00030000 ∧
    (newtonFactor x y).toNat = 0x00030000 - (newtonXy2 x y).toNat ∧
    (newtonStep x y).toNat = y.toNat * (newtonFactor x y).toNat / 2 ^ 17

/-- R89: RSQRT at the powers of two, the five exponents where it is one below the table, and the consequence for
monotonicity. -/
def Obligations.PowersOfTwo : Prop :=
  (∀ e : Fin 32, (rsqrt defaultTable (1#32 <<< e.val)).toNat =
    if e.val ∈ [7, 19, 23, 27, 29] then entryNat defaultTable e.val - 1 else entryNat defaultTable e.val) ∧
  (rsqrt defaultTable (1#32 <<< 7)).toNat = 5792 ∧ (rsqrt defaultTable (1#32 <<< 19)).toNat = 90 ∧
  (rsqrt defaultTable (1#32 <<< 23)).toNat = 22 ∧ (rsqrt defaultTable (1#32 <<< 27)).toNat = 5 ∧
  (rsqrt defaultTable (1#32 <<< 29)).toNat = 2 ∧ (rsqrt defaultTable (1#32 <<< 30)).toNat = 2 ∧
  defaultTable.wf = true

/-- R88 (d), (e): RSQRT(0xFFFFFFFF) is 1, and RSQRT rises by one at each of the nine operands of the list. -/
def Obligations.RsqrtRisesAtNineOperands : Prop :=
  rsqrt defaultTable 0xFFFFFFFF = 1 ∧
  ∀ x ∈ ([0x00010000, 0x00040000, 0x00100000, 0x00400000, 0x01000000, 0x04000000, 0x0C000000, 0x10000000, 0x40000000] :
      List Word), rsqrt defaultTable x = rsqrt defaultTable (x - 1) + 1

/-- R22: the literals of the default table; each is the integer nearest to 65536/√(2^e), which is at least 0.009 away from
every midpoint of two integers (so within 0.491 of the entry); for even e it is exactly 65536/2^(e/2); and the table passes
R21. -/
def Obligations.DefaultTableIsTheFormula : Prop :=
  defaultTable.toList.map BitVec.toNat = [0x10000, 0xB505, 0x8000, 0x5A82, 0x4000, 0x2D41, 0x2000, 0x16A1, 0x1000, 0xB50,
    0x800, 0x5A8, 0x400, 0x2D4, 0x200, 0x16A, 0x100, 0xB5, 0x80, 0x5B, 0x40, 0x2D, 0x20, 0x17, 0x10, 0xB, 0x8, 0x6, 0x4,
    0x3, 0x2, 0x1] ∧
  (∀ e : Fin 32, (1000 * entryNat defaultTable e - 491) ^ 2 * 2 ^ e.val ≤ (1000 * 65536) ^ 2 ∧
    (1000 * 65536) ^ 2 ≤ (1000 * entryNat defaultTable e + 491) ^ 2 * 2 ^ e.val) ∧
  (∀ k : Fin 16, entryNat defaultTable (2 * k.val) * 2 ^ k.val = 65536) ∧ defaultTable.wf = true

/-! ### The table as a parameter (10_state.md R21) -/

/-- R21: a table is taken if it has exactly 32 entries, each in [0, 2^32 − 1], strictly decreasing in the index, and then
it is what the unit holds; any other is refused. That a unit which holds an unordered table is refused at every edge is
the model's form of that refusal (Log 7, DEDUCED). -/
def Obligations.TableParameterIsChecked : Prop :=
  (∀ raw : List Nat,
    (raw.length = 32 ∧ (∀ n ∈ raw, n < 2 ^ 32) ∧
      (∀ (i j : Nat) (_ : i < j) (hj : j < raw.length), raw[j] < raw[i]) →
      ∃ t, State.launch raw = .next { State.reset with table := t } ∧ t.toList.map BitVec.toNat = raw ∧ t.wf = true) ∧
    (¬ (raw.length = 32 ∧ (∀ n ∈ raw, n < 2 ^ 32) ∧
      (∀ (i j : Nat) (_ : i < j) (hj : j < raw.length), raw[j] < raw[i])) →
      State.launch raw = .refused .malformedTable)) ∧
  ∀ (s : State) (i j : BitVec 5), i.toNat < j.toNat → (lutRead s.table i).toNat ≤ (lutRead s.table j).toNat →
    step s = .refused .malformedTable

/-- R20, R48: no edge and no run writes the table. -/
def Obligations.TableIsNeverWritten : Prop :=
  ∀ (k : Nat) (s t : State), runFor k s = .next t → t.table = s.table

/-! ### The step (10_state.md R30 to R34, 70_reset_and_hazards.md) -/

/-- A step runs the decoded instruction (R33): at a BUSY edge without reset at which the draw completes, the step is
`exec` of what `REQ` decodes to, at the state after the requester's drives of this edge have passed. -/
def Obligations.StepRunsTheDecodedInstruction : Prop :=
  ∀ (s : State) (r : Request) (i : Instr),
    s.table.wf = true → s.sampled.rst = false → s.dutyKept s.sampled = true →
    s.phase = .busy → s.busyLeft ≤ 1 → s.req = some r → decode (bundleOfRequest r) = .ok i → i.wf = true →
    step s = exec i { s with inputs := s.inputs.tail, held := s.offerAfter s.sampled }

/-- Placing an instruction (Log 13, the model's own) makes the next step run exactly it, on a state that differs from the
given one only where the placing says. -/
def Obligations.PlacedInstructionRunsNext : Prop :=
  ∀ (s : State) (nbits w : Nat) (i : Instr), s.table.wf = true → decodeTableWord nbits w = some i →
    ∃ r, decode (bundleOfRequest r) = .ok i ∧
      step (s.withFetchWord nbits w) = exec i { s with phase := .busy, req := some r, rsp := none, busyLeft := 1 }

/-- The whole edge table of R33, each block with its guard; state not assigned keeps its value. The bound [1, `LAT_MAX`] is
R34's. The model's own are the count `busyLeft`, drawn at acceptance, as the form of the draw `fin` (Log 3), the counter
`draws` (Log 4), and the standing offer `held` with the duty that guards every edge without reset (Log 5). -/
def Obligations.StepFollowsTheEdgeTable : Prop :=
  ∀ (s : State) (p : Inputs), s.table.wf = true → s.sampled = p →
    (p.rst = true → step s = .next { s with
      phase := .idle, req := none, rsp := none, inputs := s.inputs.tail, held := none, busyLeft := 0 }) ∧
    (p.rst = false → s.dutyKept p = true → ∀ u, u = { s with inputs := s.inputs.tail, held := s.offerAfter p } →
      (s.phase = .idle → p.reqValid = true → ∃ n, 1 ≤ n ∧ n ≤ Config.latMax ∧ step s = .next { u with
        phase := .busy, req := some ⟨p.reqOp, p.reqA, p.reqB⟩, busyLeft := n, draws := s.draws + 1 }) ∧
      (s.phase = .idle → p.reqValid = false → step s = .next u) ∧
      (s.phase = .busy → s.fin = false → step s = .next { u with busyLeft := s.busyLeft - 1 }) ∧
      (s.phase = .busy → s.fin = true → ∀ r, s.req = some r → r.op = 3#2 → step s = .refused .reservedOp) ∧
      (s.phase = .busy → s.fin = true → ∀ r v, s.req = some r → responseValue s.table r = some v →
        step s = .next { u with phase := .done, req := none, rsp := some v, busyLeft := 0 }) ∧
      (s.phase = .done → p.rspReady = true → step s = .next { u with phase := .idle, rsp := none }) ∧
      (s.phase = .done → p.rspReady = false → step s = .next u))

/-- R31: the state after a reset edge, whatever the state before, and the outputs it gives; and the model's reset state
is such a state with the default table. -/
def Obligations.ResetEdgeGivesTheResetState : Prop :=
  (∀ s : State, s.table.wf = true → s.sampled.rst = true → ∃ t, step s = .next t ∧
    t.phase = .idle ∧ t.req = none ∧ t.rsp = none ∧ t.table = s.table ∧
    t.reqReady true = false ∧ t.reqReady false = true ∧ (∀ b, t.rspValid b = false) ∧ t.rspData = none) ∧
  State.reset.phase = .idle ∧ State.reset.req = none ∧ State.reset.rsp = none ∧ State.reset.table = defaultTable ∧
  State.reset.reqReady true = false ∧ State.reset.reqReady false = true ∧ (∀ b, State.reset.rspValid b = false) ∧
  State.reset.rspData = none

/-- R106: while `rst = 1` both `req_ready` and `rsp_valid` are 0, no request is accepted and no response offered. -/
def Obligations.NothingPassesDuringReset : Prop :=
  ∀ (s : State) (p : Inputs), s.reqReady true = false ∧ s.rspValid true = false ∧
    (p.rst = true → s.requestTransfer p = false ∧ s.responseTransfer p = false)

/-- R30: the outputs. -/
def Obligations.OutputsFollowPhaseAndReset : Prop :=
  ∀ (s : State) (rst : Bool),
    (s.reqReady rst = true ↔ s.phase = .idle ∧ rst = false) ∧
    (s.rspValid rst = true ↔ s.phase = .done ∧ rst = false) ∧
    (s.phase = .done → s.rspData = s.rsp) ∧ (s.phase ≠ .done → s.rspData = none)

/-- R56: the reserved op is accepted like any other request, refused at its completion with the reason ReservedOp, the
refusal stays for the rest of the run, and no response is ever given; no other `op` is rejected. -/
def Obligations.ReservedOpIsAcceptedThenRefused : Prop :=
  (∀ (s : State) (r : Request), s.table.wf = true → s.sampled.rst = false → s.dutyKept s.sampled = true →
    r.op = 3#2 → s.sampled.request = r → s.sampled.reqValid = true → s.phase = .idle →
    ∃ t, step s = .next t ∧ t.phase = .busy ∧ t.req = some r) ∧
  (∀ (s : State) (r : Request), s.table.wf = true → s.sampled.rst = false → s.dutyKept s.sampled = true →
    r.op = 3#2 → s.req = some r → s.phase = .busy → s.fin = true →
    ∀ k, runFor (k + 1) s = .refused .reservedOp ∧ events (k + 1) s = []) ∧
  ∀ r : Request, r.op ≠ 3#2 → ∃ i, decodeRequest r = .ok i

/-- R111: once a response is offered, `rsp_valid` stays 1 and `rsp_data` does not change until the response transfer or a
reset; `req_ready` stays 0 from a request transfer until then. -/
def Obligations.ResponseIsHeldStable : Prop :=
  ∀ s t : State, step s = .next t → s.sampled.rst = false →
    (s.phase = .done → s.sampled.rspReady = false →
      t.rspValid false = true ∧ t.rspData = s.rspData ∧ t.reqReady false = false) ∧
    (s.requestTransfer s.sampled = true → t.reqReady false = false) ∧
    (s.phase = .busy → t.reqReady false = false)

/-- R112: the drives on the ports at a BUSY edge do not affect the transaction in flight: two states that differ only in
the requester's drives, neither with a reset nor a broken duty at this edge, go on alike. -/
def Obligations.OperandsAreCaptured : Prop :=
  ∀ (s t : State) (ins : List Inputs) (h : Option Request), s.phase = .busy → s.sampled.rst = false →
    ({ s with inputs := ins, held := h } : State).sampled.rst = false →
    ({ s with inputs := ins, held := h } : State).dutyKept ({ s with inputs := ins, held := h } : State).sampled = true →
    step s = .next t →
    ∃ h', step { s with inputs := ins, held := h } = .next { t with inputs := ins.tail, held := h' }

/-- R29: the response of a transaction is a function of its request and `TABLE` alone. -/
def Obligations.ResponseDependsOnRequestAndTable : Prop :=
  ∀ (s s' t t' : State) (r : Request), s.table = s'.table → s.phase = .busy → s'.phase = .busy →
    s.req = some r → s'.req = some r → step s = .next t → step s' = .next t' → t.phase = .done → t'.phase = .done →
    t.rsp = t'.rsp ∧ t.rsp = responseValue s.table r

/-- R109: an offer made while `req_ready = 0` must stand, unchanged, up to the edge of its transfer, and a reset edge ends
the duty. That a step of a requester that breaks it is refused by the name requestChanged, and that the standing offer
is a field of the state, are the model's (Log 5, DEDUCED). -/
def Obligations.OfferedRequestMustStand : Prop :=
  (∀ (s : State) (r : Request), s.table.wf = true → s.held = some r → s.sampled.rst = false →
    ¬ (s.sampled.reqValid = true ∧ s.sampled.request = r) → step s = .refused .requestChanged) ∧
  ∀ s t : State, step s = .next t →
    (s.sampled.rst = true → t.held = none) ∧
    (s.sampled.rst = false → s.sampled.reqValid = true → s.reqReady false = false → t.held = some s.sampled.request) ∧
    (s.sampled.rst = false → s.requestTransfer s.sampled = true → t.held = none ∧ ∀ r, s.held = some r → t.req = some r)

/-- R114: no edge is both a response transfer and a request transfer; the edge after a response transfer can accept; the
edge after a request transfer is in BUSY and transfers nothing, so a transaction takes at least three edges. -/
def Obligations.TransactionsAreSpaced : Prop :=
  (∀ (s : State) (p : Inputs), ¬ (s.requestTransfer p = true ∧ s.responseTransfer p = true)) ∧
  (∀ s t : State, step s = .next t → s.responseTransfer s.sampled = true → t.reqReady false = true) ∧
  (∀ s t : State, step s = .next t → s.requestTransfer s.sampled = true → t.phase = .busy) ∧
  (∀ (s : State) (p : Inputs), s.phase = .busy → s.requestTransfer p = false ∧ s.responseTransfer p = false)

/-! ### Invariants and runs -/

/-- The invariant holds at reset (R31, R21); its bounds on the count `busyLeft` are the model's (Log 3). -/
def Obligations.ResetMeetsTheInvariant : Prop := Inv State.reset

/-- Every step keeps the invariant (R19, R21, R25, R34); its bounds on the count `busyLeft` are the model's form of R34's
law (Log 3). -/
def Obligations.StepKeepsTheInvariant : Prop :=
  ∀ s t : State, Inv s → step s = .next t → Inv t

/-- R25: `RSP` is written only by the completion step, with `EXEC` of what `REQ` holds. A completing edge (no reset, BUSY, the
draw `fin` in the model's form, Log 3) finds a request in `REQ` and puts its `EXEC` into `RSP`; every other edge keeps
`RSP`, but for a reset edge and a response transfer, which clear it. -/
def Obligations.RspIsAlwaysAnExecValue : Prop :=
  ∀ s t : State, step s = .next t →
    (s.sampled.rst = false → s.phase = .busy → s.fin = true →
      ∃ r v, s.req = some r ∧ responseValue s.table r = some v ∧ t.phase = .done ∧ t.rsp = some v) ∧
    (¬ (s.sampled.rst = false ∧ s.phase = .busy ∧ s.fin = true) →
      t.rsp = if s.sampled.rst || s.responseTransfer s.sampled then none else s.rsp)

/-- R90, R56, R109: in a state that meets the invariant no step faults, and the only refusals are of the reserved op at its
completion and of a requester that breaks its duty. -/
def Obligations.NoFaultAndOnlyNamedRefusals : Prop :=
  ∀ s : State, Inv s →
    (∀ f, step s ≠ .fault f) ∧
    ∀ q, step s = .refused q →
      (q = .reservedOp ∧ s.phase = .busy ∧ ∃ r, s.req = some r ∧ r.op = 3#2) ∨
      (q = .requestChanged ∧ s.sampled.rst = false ∧ ∃ r, s.held = some r ∧ (s.sampled.reqValid = false ∨ s.sampled.request ≠ r))

/-- R34, R115: no run spends more than `LAT_MAX` consecutive edges in BUSY: if the states before edges 0 to k are all in
BUSY, then k + 1 is at most `LAT_MAX`. The invariant's bound on the count `busyLeft` is the model's form of R34's law
(Logs 3 and 19). -/
def Obligations.BusyEndsWithinLatMax : Prop :=
  ∀ (s : State) (k : Nat), Inv s →
    (∀ j, j ≤ k → ∃ u, runFor j s = .next u ∧ u.phase = .busy) → k < Config.latMax

/-- R34, R33: a transaction in BUSY whose request is not reserved completes after exactly the drawn number of edges, in
[1, `LAT_MAX`], with `EXEC` of its request, whatever the requester does within its duties. The drawn number is the
model's count `busyLeft`, told in advance (Log 3, DEDUCED), where R34 draws `fin` at each edge. -/
def Obligations.TransactionCompletes : Prop :=
  ∀ (s : State) (r : Request) (v : DWord), Inv s → s.phase = .busy → s.req = some r → responseValue s.table r = some v →
    RequesterKeeps s.busyLeft s →
    1 ≤ s.busyLeft ∧ s.busyLeft ≤ Config.latMax ∧
    (∀ j, j < s.busyLeft → ∃ u, runFor j s = .next u ∧ u.phase = .busy) ∧
    ∃ t, runFor s.busyLeft s = .next t ∧ t.phase = .done ∧ t.rsp = some v

/-- R35, R50: a request transfer of a request that is not reserved is followed, after the n edges in BUSY that the transfer
draws, with n in [1, `LAT_MAX`], by exactly one response transfer, with `EXEC` of that request, for every requester that
keeps its duties over these n + 2 edges and is ready at the last. That n is known at the transfer is the model's form of
the draw (Log 3, DEDUCED). -/
def Obligations.RequestIsAnsweredByExec : Prop :=
  ∀ (s : State) (v : DWord) (n : Nat), Inv s → s.phase = .idle → s.sampled.reqValid = true →
    responseValue s.table s.sampled.request = some v → n = latency s.draws s.sampled.request →
    RequesterKeeps (n + 2) s → (∀ u, runFor (n + 1) s = .next u → u.sampled.rspReady = true) →
    1 ≤ n ∧ n ≤ Config.latMax ∧
    events (n + 2) s = .request s.sampled.request :: (List.replicate n .quiet ++ [.response (some v)])

/-- R16, R35, R45: over any run from an idle state, resets included, the responses since the last reset are `EXEC` of the
requests since then, in request order and none skipped, and at most one request is unanswered. -/
def Obligations.ResponsesFollowRequestsInOrder : Prop :=
  ∀ (s t : State) (k : Nat), Inv s → s.phase = .idle → runFor k s = .next t →
    ∀ es, es = sinceReset [] (events k s) →
      responsesOf es = ((requestsOf es).map (responseValue s.table)).take (responsesOf es).length ∧
      (responsesOf es).length ≤ (requestsOf es).length ∧ (requestsOf es).length ≤ (responsesOf es).length + 1

/-- R117: a run from an idle state ends well exactly if it is not refused and ends in IDLE. -/
def Obligations.RunEndsWellExactlyInIdle : Prop :=
  ∀ (s : State) (k : Nat), Inv s → s.phase = .idle →
    (EndsWell k s ↔ ∃ t, runFor k s = .next t ∧ t.phase = .idle)
end

