-- ==== Sys2Proof/Laws/Decode.lean ====
section
/-! SUPPORT. Small lemmas of the request format: the fields of a bundle that a request fills, and back. -/

namespace Sys2Proof

/-- Bit i of a bundle made of three fields. -/
theorem getLsbD_bundle (op : BitVec 2) (a b : Word) (i : Nat) :
    BitVec.getLsbD (op ++ a ++ b : Bundle) i =
      if i < 32 then b.getLsbD i else if i < 64 then a.getLsbD (i - 32) else op.getLsbD (i - 64) := by
  have h := BitVec.getLsbD_append (x := (op ++ a : BitVec 34)) (y := b) (i := i)
  have h' := BitVec.getLsbD_append (x := op) (y := a) (i := i - 32)
  rw [h, h']
  simp only [Nat.sub_sub, show i - 32 < 32 ↔ i < 64 by omega]

@[simp] theorem bundleOp_append (op : BitVec 2) (a b : Word) : bundleOp (op ++ a ++ b : Bundle) = op := by
  apply BitVec.eq_of_getLsbD_eq
  intro i hi
  rw [bundleOp, BitVec.getLsbD_extractLsb', getLsbD_bundle]
  simp [hi, show ¬ 64 + i < 32 by omega]

@[simp] theorem bundleA_append (op : BitVec 2) (a b : Word) : bundleA (op ++ a ++ b : Bundle) = a := by
  apply BitVec.eq_of_getLsbD_eq
  intro i hi
  rw [bundleA, BitVec.getLsbD_extractLsb', getLsbD_bundle]
  simp [hi, show 32 + i < 64 by omega]

@[simp] theorem bundleB_append (op : BitVec 2) (a b : Word) : bundleB (op ++ a ++ b : Bundle) = b := by
  apply BitVec.eq_of_getLsbD_eq
  intro i hi
  rw [bundleB, BitVec.getLsbD_extractLsb', getLsbD_bundle]
  simp [hi]

/-- The fields of a bundle made of three fields are those fields (R50). -/
@[simp] theorem requestOfBundle_bundleOfRequest (r : Request) : requestOfBundle (bundleOfRequest r) = r := by
  simp [requestOfBundle, bundleOfRequest]

end Sys2Proof
end

