-- ==== Sys2Proof/Laws/State.lean ====
section
/-! SUPPORT. One lemma for each field of the state and each update of Machine/Ops.lean, so that no later proof unfolds a
record update. -/

namespace Sys2Proof.Machine

variable (s : State)

@[simp] theorem State.consumeEdge_phase : (s.consumeEdge).phase = s.phase := rfl
@[simp] theorem State.consumeEdge_req : (s.consumeEdge).req = s.req := rfl
@[simp] theorem State.consumeEdge_rsp : (s.consumeEdge).rsp = s.rsp := rfl
@[simp] theorem State.consumeEdge_table : (s.consumeEdge).table = s.table := rfl
@[simp] theorem State.consumeEdge_inputs : (s.consumeEdge).inputs = s.inputs.tail := rfl
@[simp] theorem State.consumeEdge_held : (s.consumeEdge).held = s.held := rfl
@[simp] theorem State.consumeEdge_busyLeft : (s.consumeEdge).busyLeft = s.busyLeft := rfl
@[simp] theorem State.consumeEdge_draws : (s.consumeEdge).draws = s.draws := rfl

@[simp] theorem State.passEdge_phase (p : Inputs) : (s.passEdge p).phase = s.phase := rfl
@[simp] theorem State.passEdge_req (p : Inputs) : (s.passEdge p).req = s.req := rfl
@[simp] theorem State.passEdge_rsp (p : Inputs) : (s.passEdge p).rsp = s.rsp := rfl
@[simp] theorem State.passEdge_table (p : Inputs) : (s.passEdge p).table = s.table := rfl
@[simp] theorem State.passEdge_inputs (p : Inputs) : (s.passEdge p).inputs = s.inputs.tail := rfl
@[simp] theorem State.passEdge_held (p : Inputs) : (s.passEdge p).held = s.offerAfter p := rfl
@[simp] theorem State.passEdge_busyLeft (p : Inputs) : (s.passEdge p).busyLeft = s.busyLeft := rfl
@[simp] theorem State.passEdge_draws (p : Inputs) : (s.passEdge p).draws = s.draws := rfl

@[simp] theorem State.takeReset_phase : (s.takeReset).phase = .idle := rfl
@[simp] theorem State.takeReset_req : (s.takeReset).req = none := rfl
@[simp] theorem State.takeReset_rsp : (s.takeReset).rsp = none := rfl
@[simp] theorem State.takeReset_table : (s.takeReset).table = s.table := rfl
@[simp] theorem State.takeReset_inputs : (s.takeReset).inputs = s.inputs := rfl
@[simp] theorem State.takeReset_held : (s.takeReset).held = none := rfl
@[simp] theorem State.takeReset_busyLeft : (s.takeReset).busyLeft = 0 := rfl
@[simp] theorem State.takeReset_draws : (s.takeReset).draws = s.draws := rfl

@[simp] theorem State.acceptRequest_phase (r : Request) : (s.acceptRequest r).phase = .busy := rfl
@[simp] theorem State.acceptRequest_req (r : Request) : (s.acceptRequest r).req = some r := rfl
@[simp] theorem State.acceptRequest_rsp (r : Request) : (s.acceptRequest r).rsp = s.rsp := rfl
@[simp] theorem State.acceptRequest_table (r : Request) : (s.acceptRequest r).table = s.table := rfl
@[simp] theorem State.acceptRequest_inputs (r : Request) : (s.acceptRequest r).inputs = s.inputs := rfl
@[simp] theorem State.acceptRequest_held (r : Request) : (s.acceptRequest r).held = s.held := rfl
@[simp] theorem State.acceptRequest_busyLeft (r : Request) : (s.acceptRequest r).busyLeft = latency s.draws r := rfl
@[simp] theorem State.acceptRequest_draws (r : Request) : (s.acceptRequest r).draws = s.draws + 1 := rfl

@[simp] theorem State.wait_phase : (s.wait).phase = s.phase := rfl
@[simp] theorem State.wait_req : (s.wait).req = s.req := rfl
@[simp] theorem State.wait_rsp : (s.wait).rsp = s.rsp := rfl
@[simp] theorem State.wait_table : (s.wait).table = s.table := rfl
@[simp] theorem State.wait_inputs : (s.wait).inputs = s.inputs := rfl
@[simp] theorem State.wait_held : (s.wait).held = s.held := rfl
@[simp] theorem State.wait_busyLeft : (s.wait).busyLeft = s.busyLeft - 1 := rfl
@[simp] theorem State.wait_draws : (s.wait).draws = s.draws := rfl

@[simp] theorem State.complete_phase (v : DWord) : (s.complete v).phase = .done := rfl
@[simp] theorem State.complete_req (v : DWord) : (s.complete v).req = none := rfl
@[simp] theorem State.complete_rsp (v : DWord) : (s.complete v).rsp = some v := rfl
@[simp] theorem State.complete_table (v : DWord) : (s.complete v).table = s.table := rfl
@[simp] theorem State.complete_inputs (v : DWord) : (s.complete v).inputs = s.inputs := rfl
@[simp] theorem State.complete_held (v : DWord) : (s.complete v).held = s.held := rfl
@[simp] theorem State.complete_busyLeft (v : DWord) : (s.complete v).busyLeft = 0 := rfl
@[simp] theorem State.complete_draws (v : DWord) : (s.complete v).draws = s.draws := rfl

@[simp] theorem State.releaseResponse_phase : (s.releaseResponse).phase = .idle := rfl
@[simp] theorem State.releaseResponse_req : (s.releaseResponse).req = s.req := rfl
@[simp] theorem State.releaseResponse_rsp : (s.releaseResponse).rsp = none := rfl
@[simp] theorem State.releaseResponse_table : (s.releaseResponse).table = s.table := rfl
@[simp] theorem State.releaseResponse_inputs : (s.releaseResponse).inputs = s.inputs := rfl
@[simp] theorem State.releaseResponse_held : (s.releaseResponse).held = s.held := rfl
@[simp] theorem State.releaseResponse_busyLeft : (s.releaseResponse).busyLeft = s.busyLeft := rfl
@[simp] theorem State.releaseResponse_draws : (s.releaseResponse).draws = s.draws := rfl

@[simp] theorem State.placeRequest_phase (r : Request) : (s.placeRequest r).phase = .busy := rfl
@[simp] theorem State.placeRequest_req (r : Request) : (s.placeRequest r).req = some r := rfl
@[simp] theorem State.placeRequest_rsp (r : Request) : (s.placeRequest r).rsp = none := rfl
@[simp] theorem State.placeRequest_table (r : Request) : (s.placeRequest r).table = s.table := rfl
@[simp] theorem State.placeRequest_inputs (r : Request) : (s.placeRequest r).inputs = quietInputs s.held :: s.inputs := rfl
@[simp] theorem State.placeRequest_held (r : Request) : (s.placeRequest r).held = s.held := rfl
@[simp] theorem State.placeRequest_busyLeft (r : Request) : (s.placeRequest r).busyLeft = 1 := rfl
@[simp] theorem State.placeRequest_draws (r : Request) : (s.placeRequest r).draws = s.draws := rfl

end Sys2Proof.Machine
end

