-- ==== Sys2Proof/Laws/Ops.lean ====
section
/-! SUPPORT. What each shared operation can do, said once: the draw, the sampled inputs, the requester's duty, the
outputs, and the completion of an instruction. -/

namespace Sys2Proof.Machine

theorem latMax_pos : 1 ≤ Config.latMax := by simp [Config.latMax]

theorem latency_pos (n : Nat) (r : Request) : 1 ≤ latency n r := by simp [latency]

theorem latency_le (n : Nat) (r : Request) : latency n r ≤ Config.latMax :=
  Nat.succ_le_of_lt (Nat.mod_lt _ latMax_pos)

@[simp] theorem fin_iff (s : State) : s.fin = true ↔ s.busyLeft ≤ 1 := by simp [State.fin]

@[simp] theorem sampled_nil (s : State) (h : s.inputs = []) : s.sampled = quietInputs s.held := by
  simp [State.sampled, h]

@[simp] theorem sampled_cons (s : State) (p : Inputs) (ps : List Inputs) (h : s.inputs = p :: ps) : s.sampled = p := by
  simp [State.sampled, h]

@[simp] theorem quietInputs_rst (held : Option Request) : (quietInputs held).rst = false := by
  cases held <;> rfl

/-- The quiet requester keeps the duty of R109. -/
@[simp] theorem quietInputs_dutyKept (s : State) : s.dutyKept (quietInputs s.held) = true := by
  cases h : s.held <;> simp [State.dutyKept, h, quietInputs, Inputs.request]

theorem dutyKept_iff (s : State) (p : Inputs) :
    s.dutyKept p = true ↔ ∀ r, s.held = some r → p.reqValid = true ∧ p.request = r := by
  cases h : s.held <;> simp [State.dutyKept, h]

theorem offerAfter_eq_some_iff (s : State) (p : Inputs) (r : Request) :
    s.offerAfter p = some r ↔ p.reqValid = true ∧ s.phase ≠ .idle ∧ p.request = r := by
  simp [State.offerAfter, and_assoc]

@[simp] theorem reqReady_iff (s : State) (rst : Bool) : s.reqReady rst = true ↔ s.phase = .idle ∧ rst = false := by
  simp [State.reqReady]

@[simp] theorem rspValid_iff (s : State) (rst : Bool) : s.rspValid rst = true ↔ s.phase = .done ∧ rst = false := by
  simp [State.rspValid]

theorem rspData_done (s : State) (h : s.phase = .done) : s.rspData = s.rsp := by simp [State.rspData, h]

theorem rspData_not_done (s : State) (h : s.phase ≠ .done) : s.rspData = none := by
  cases hp : s.phase <;> simp_all [State.rspData]

/-- Every instruction completes by the one operation that writes `RSP` (R25). -/
theorem exec_is_completion (i : Instr) (s : State) : ∃ v, exec i s = .next (s.complete v) := by
  cases i <;> exact ⟨_, rfl⟩

/-- The reserved value is the only one the decoder rejects (R53, R56). -/
theorem decodeRequest_error_iff (r : Request) : (∃ e, decodeRequest r = .error e) ↔ r.op = 3#2 := by
  obtain ⟨op, a, b⟩ := r
  match op with
  | 0#2 => simp [decodeRequest]
  | 1#2 => simp [decodeRequest]
  | 2#2 => simp [decodeRequest]
  | 3#2 => simp [decodeRequest]

end Sys2Proof.Machine
end

