-- ==== Sys2Proof/Laws/PerInstr.lean ====
section
/-! SUPPORT. The family TableRow: the encoding of each instruction has the fixed bits that its row of
spec/opcode_table.json gives (`match` under `mask`). One lemma for each constructor. -/

namespace Sys2Proof.Laws.TableRow

/-- The `mask` of every row: bits 65:64. -/
def mask : Bundle := 0x30000000000000000

/-- The `match` of each row. -/
def fixedBits : Instr → Bundle
  | .mul32 _ _ => 0x00000000000000000
  | .clz _ _ => 0x10000000000000000
  | .rsqrt _ _ => 0x20000000000000000

/-- Under the mask, the encoding is the row's match. -/
def Statement (i : Instr) : Prop := encode i &&& mask = fixedBits i

/-- The mask keeps the operation field and clears the operands. -/
theorem and_mask (op : BitVec 2) (a b : Word) :
    ((op ++ a ++ b : Bundle) &&& mask) = (op ++ (0 : Word) ++ (0 : Word) : Bundle) := by
  have : mask = (3#2 ++ (0 : Word) ++ (0 : Word) : Bundle) := by decide
  rw [this]
  apply BitVec.eq_of_getLsbD_eq
  intro i hi
  simp only [BitVec.getLsbD_and, BitVec.getLsbD_append]
  split
  · simp
  · split
    · simp
    · have h2 : i - 32 - 32 = 0 ∨ i - 32 - 32 = 1 := by omega
      rcases h2 with h | h <;> simp [h]

theorem mul32 (a b : Word) : Statement (.mul32 a b) := (and_mask 0#2 a b).trans (show (0#2 ++ (0 : Word) ++ (0 : Word) : Bundle) = 0x0 by decide)

theorem clz (a b : Word) : Statement (.clz a b) := (and_mask 1#2 a b).trans (show (1#2 ++ (0 : Word) ++ (0 : Word) : Bundle) = 0x10000000000000000 by decide)

theorem rsqrt (a b : Word) : Statement (.rsqrt a b) := (and_mask 2#2 a b).trans (show (2#2 ++ (0 : Word) ++ (0 : Word) : Bundle) = 0x20000000000000000 by decide)

end Sys2Proof.Laws.TableRow
end

