-- ==== Sys2Proof/Laws/Step.lean ====
section
/-! SUPPORT. What one step can do, said once: if it answers a next state, one of the cases of `StepCase` holds, and each
case names its guards and the state it leads to. Later proofs take a step apart by it and never unfold the step. -/

namespace Sys2Proof.Machine

/-- The ways a step leads from `s` to `s'` (10_state.md R33). -/
inductive StepCase (s : State) : State → Prop where
  | reset (hr : s.sampled.rst = true) : StepCase s s.consumeEdge.takeReset
  | accept (hr : s.sampled.rst = false) (hd : s.dutyKept s.sampled = true) (hp : s.phase = .idle)
      (hv : s.sampled.reqValid = true) : StepCase s ((s.passEdge s.sampled).acceptRequest s.sampled.request)
  | idle (hr : s.sampled.rst = false) (hd : s.dutyKept s.sampled = true) (hp : s.phase = .idle)
      (hv : s.sampled.reqValid = false) : StepCase s (s.passEdge s.sampled)
  | wait (hr : s.sampled.rst = false) (hd : s.dutyKept s.sampled = true) (hp : s.phase = .busy)
      (hf : s.fin = false) : StepCase s (s.passEdge s.sampled).wait
  | complete (r : Request) (i : Instr) (v : DWord) (hr : s.sampled.rst = false) (hd : s.dutyKept s.sampled = true)
      (hp : s.phase = .busy) (hf : s.fin = true) (hq : s.req = some r) (hi : decodeRequest r = .ok i)
      (he : exec i (s.passEdge s.sampled) = .next ((s.passEdge s.sampled).complete v)) :
      StepCase s ((s.passEdge s.sampled).complete v)
  | release (hr : s.sampled.rst = false) (hd : s.dutyKept s.sampled = true) (hp : s.phase = .done)
      (hy : s.sampled.rspReady = true) : StepCase s (s.passEdge s.sampled).releaseResponse
  | offer (hr : s.sampled.rst = false) (hd : s.dutyKept s.sampled = true) (hp : s.phase = .done)
      (hy : s.sampled.rspReady = false) : StepCase s (s.passEdge s.sampled)

theorem step_next_table_wf {s s' : State} (h : step s = .next s') : s.table.wf = true := by
  unfold step edge at h
  split at h
  · assumption
  · cases h

theorem completion_next {s s' : State} (h : completion s = .next s') :
    ∃ r i v, s.req = some r ∧ decodeRequest r = .ok i ∧ s' = s.complete v ∧ exec i s = .next s' := by
  unfold completion at h
  split at h
  · cases h
  · next r hq =>
    split at h
    · next i hi =>
      obtain ⟨v, hv⟩ := exec_is_completion i s
      have : s' = s.complete v := by rw [hv] at h; exact (Host.Outcome.next.inj h).symm
      exact ⟨r, i, v, hq, hi, this, h⟩
    · cases h

/-- If a step answers a next state, it is one of the cases of R33. -/
theorem step_cases {s s' : State} (h : step s = .next s') : StepCase s s' := by
  unfold step edge at h
  rw [if_pos (step_next_table_wf h)] at h
  cases hr : s.sampled.rst with
  | true =>
    rw [if_pos hr] at h
    cases h
    exact .reset hr
  | false =>
    rw [if_neg (by simp [hr])] at h
    cases hd : s.dutyKept s.sampled with
    | false => simp [hd] at h
    | true =>
      rw [if_pos hd] at h
      cases hp : s.phase with
      | idle =>
        simp only [edgePhase, State.passEdge_phase, hp, edgeIdle] at h
        split at h <;> cases h
        · exact .accept hr hd hp ‹_›
        · exact .idle hr hd hp (eq_false_of_ne_true ‹¬ _›)
      | busy =>
        simp only [edgePhase, State.passEdge_phase, hp, edgeBusy] at h
        split at h
        · next hf =>
          obtain ⟨r, i, v, hq, hi, rfl, he⟩ := completion_next h
          exact .complete r i v hr hd hp hf hq hi he
        · next hf =>
          cases h
          exact .wait hr hd hp (eq_false_of_ne_true hf)
      | done =>
        simp only [edgePhase, State.passEdge_phase, hp, edgeDone] at h
        split at h <;> cases h
        · exact .release hr hd hp ‹_›
        · exact .offer hr hd hp (eq_false_of_ne_true ‹¬ _›)

end Sys2Proof.Machine
end

