-- ==== Sys2Proof/Laws/Run.lean ====
section
/-! SUPPORT. Small lemmas of runs: one more edge at the front, and the quiet requester (Log 2) keeps its duties for ever. -/

namespace Sys2Proof.Machine

@[simp] theorem runFor_zero (s : State) : runFor 0 s = .next s := rfl

theorem runFor_succ {s s' : State} (k : Nat) (h : step s = .next s') : runFor (k + 1) s = runFor k s' := by
  simp [runFor, h]

/-- A run that goes on goes on at its first edge. -/
theorem runFor_succ_next {k : Nat} {s t : State} (h : runFor (k + 1) s = .next t) :
    ∃ u, step s = .next u ∧ runFor k u = .next t := by
  unfold runFor at h
  split at h
  · next u hu => exact ⟨u, hu, h⟩
  · cases h
  · cases h

/-- Each edge takes one drive off the requester's list. -/
theorem step_inputs {s t : State} (h : step s = .next t) : t.inputs = s.inputs.tail := by
  cases step_cases h <;> simp

/-- With no drives left, the requester stays quiet along every run. -/
theorem runFor_inputs_nil {k : Nat} {s t : State} (hs : s.inputs = []) (h : runFor k s = .next t) : t.inputs = [] := by
  induction k generalizing s with
  | zero => cases h; exact hs
  | succ k ih =>
    obtain ⟨u, hu, ht⟩ := runFor_succ_next h
    exact ih (by simp [step_inputs hu, hs]) ht

/-- The quiet requester keeps its duties over any number of edges. -/
theorem requesterKeeps_of_quiet (n : Nat) {s : State} (hs : s.inputs = []) : RequesterKeeps n s := by
  intro j u _ hu
  simp [sampled_nil u (runFor_inputs_nil hs hu)]

/-- The quiet requester is ready for every response. -/
theorem rspReady_of_quiet {k : Nat} {s u : State} (hs : s.inputs = []) (hu : runFor k s = .next u) :
    u.sampled.rspReady = true := by
  rw [sampled_nil u (runFor_inputs_nil hs hu)]
  cases u.held <;> rfl

end Sys2Proof.Machine
end

