-- ==== Sys2Proof/Tests/Slice0.lean ====
section
/-! SUPPORT. The model's own tests. Expected values are the spec's: 95_test_vectors.md, the worked examples of the rules,
and the bundles written out in 30_encoding.md and the programs P1 to P5. -/

namespace Sys2Proof.Machine.Tests

/-- The state a step leads to, if it leads to one. -/
def after? : Host.Outcome State Fault Refusal → Option State
  | .next s => some s
  | .fault _ => none
  | .refused _ => none

/-- The reason a step was refused, if it was. -/
def refusal? : Host.Outcome State Fault Refusal → Option Refusal
  | .next _ => none
  | .fault _ => none
  | .refused r => some r

/-- What an instruction responds with the default table. -/
def response? (i : Instr) : Option DWord := (after? (exec i State.reset)).bind (·.rsp)

/-- BUSY with `r` in `REQ` and `left` edges to go. -/
def busyWith (r : Request) (left : Nat) : State := { State.reset with phase := .busy, req := some r, busyLeft := left }

/-- DONE with `v` in `RSP`. -/
def doneWith (v : DWord) : State := { State.reset with phase := .done, rsp := some v }

/-- `s` with `p` on its ports at the coming edge. -/
def driving (p : Inputs) (s : State) : State := { s with inputs := [p] }

/-- Ports: no reset, the request `r` offered, `rsp_ready` as given. -/
def offering (r : Request) (ready : Bool) : Inputs := ⟨false, true, r.op, r.a, r.b, ready⟩

/-- Ports: no reset, no request. -/
def idlePorts (ready : Bool) : Inputs := ⟨false, false, 0, 0, 0, ready⟩

/-- Ports: reset, and a request offered at the same edge. -/
def resetting (r : Request) : Inputs := ⟨true, true, r.op, r.a, r.b, true⟩

def rsqrt4 : Request := ⟨2, 4, 0⟩
def reserved : Request := ⟨3, 0, 0⟩

/-! ### WellFormed: for each check an ill-formed term, which it refuses -/

theorem test_request_wf_refuses_reserved : reserved.wf = false := by decide
theorem test_request_wf_accepts_rsqrt : rsqrt4.wf = true := by decide
theorem test_instr_wf : (Instr.clz 0 0xDEADBEEF).wf = true := by decide
theorem test_table_length_refused : tableLengthOk (List.range 31) = false := by decide
theorem test_table_entry_refused : tableEntriesOk [2 ^ 32, 5, 1] = false := by decide
theorem test_table_order_refused : strictlyDecreasing [3, 2, 2] = false := by decide
theorem test_table_default_taken : romOfTable (defaultTable.toList.map BitVec.toNat) = some defaultTable := by decide
theorem test_table_increasing_refused : romOfTable (List.range 32) = none := by decide
theorem test_launch_refuses : refusal? (State.launch [65536, 46341]) = some .malformedTable := by decide

/-! ### Decoding: words written out from the spec's encodings -/

/-- R59's worked example: 00, a = 0x12345678, b = 0x9ABCDEF0. -/
theorem test_decode_mul32 : decodeTableWord 72 0x0123456789ABCDEF0 = some (.mul32 0x12345678 0x9ABCDEF0) := by decide
/-- R65's worked example: 01, a = 0x00012345, b = 0. -/
theorem test_decode_clz : decodeTableWord 72 0x10001234500000000 = some (.clz 0x12345 0) := by decide
/-- R71's worked example: 10, x = 100, b = 0. -/
theorem test_decode_rsqrt : decodeTableWord 72 0x20000006400000000 = some (.rsqrt 100 0) := by decide
/-- P3 line 8. -/
theorem test_decode_rsqrt_b : decodeTableWord 72 0x200000003FFFFFFFF = some (.rsqrt 3 0xFFFFFFFF) := by decide
/-- P5 line 3. -/
theorem test_decode_reserved : decodeNumber 0x30000000000000000 = .error .reservedOp := by decide
theorem test_decode_beyond : decodeNumber (2 ^ 66) = .error .notABundle := by decide
/-- P4 edge E2. -/
theorem test_encode_mul32 : encode (.mul32 0xFFFFFFFF 0xFFFFFFFF) = 0x0FFFFFFFFFFFFFFFF := by decide
theorem test_encode_clz : encode (.clz 0 0xDEADBEEF) = 0x100000000DEADBEEF := by decide

/-! ### Results: 95_test_vectors.md sections 2 to 4 -/

theorem test_mul32_largest : response? (.mul32 0xFFFFFFFF 0xFFFFFFFF) = some 0xFFFFFFFE00000001 := by decide
theorem test_mul32_worked : response? (.mul32 0x12345678 0x9ABCDEF0) = some 0x0B00EA4E242D2080 := by decide
theorem test_clz_zero : response? (.clz 0 0xDEADBEEF) = some 32 := by decide
theorem test_clz_worked : response? (.clz 0x00012345 0) = some 15 := by decide
/-- Interpolation with e < 31, and a result above the first iteration's. -/
theorem test_rsqrt_three : response? (.rsqrt 3 0xFFFFFFFF) = some 0x93CC := by decide
/-- The largest xy2 with the smallest s. -/
theorem test_rsqrt_smallest_factor : response? (.rsqrt 0x3FFFFFFF 0) = some 1 := by decide
/-- The row x = 3 of section 4: estimate 39555, then 37718. -/
theorem test_rsqrt_steps : estimate defaultTable 3 = 39555 ∧ newtonXy2 3 39555 = 71621 ∧ newtonFactor 3 39555 = 124987 ∧
    newtonStep 3 39555 = 37718 := by decide
/-- C7: frac is a floor, and the interpolation is still taken. -/
theorem test_rsqrt_top_fraction : fraction 0x80000001 31 = 0 ∧ interpolates 0x80000001 = true := by decide
theorem test_rsqrtNat_hundred : rsqrtNat (entryNat defaultTable) 100 = 6553 := by decide
/-- X12: with entry 19 set to 90, RSQRT(0x7BD7A) is 92; with the default it is 91. -/
theorem test_rsqrt_other_table : rsqrt (defaultTable.set 19 90) 0x7BD7A = 92 ∧ rsqrt defaultTable 0x7BD7A = 91 := by decide
/-- R66 on P2's operands: every step, none, and the zero test. -/
theorem test_cascade : clzCascade 7 = 29 ∧ clzCascade 0x91A28000 = 0 ∧ clzCascade 0 = 32 := by decide
theorem test_shiftAdd : shiftAdd 0x12345678 0x9ABCDEF0 = 0x0B00EA4E242D2080 := by decide

/-! ### R58's operands: P1 line 3 and P2 line 6 -/

theorem test_spelled_mul32 :
    (SpelledLine.mul32 (.literal 100) (.low 1)).request [0x1999] = some (.mul32 100 6553) := by decide
theorem test_spelled_clz : (SpelledLine.clz (.low 2)).request [15, 0x91A28000] = some (.clz 0x91A28000 0) := by decide
theorem test_spelled_high : (SpelledOperand.high 1).value [0xFFFFFFFE00000001] = some 0xFFFFFFFE := by decide

/-! ### Protocol vectors V1 to V10 (95_test_vectors.md section 6) -/

theorem test_V1 : (after? (step (driving (resetting rsqrt4) (doneWith 8)))).map (fun s => (s.phase, s.req, s.rsp)) =
    some (.idle, none, none) := by decide
theorem test_V2 : (after? (step (driving (offering rsqrt4 false) State.reset))).map (fun s => (s.phase, s.req)) =
    some (.busy, some rsqrt4) := by decide
theorem test_V3 : (after? (step (driving (resetting rsqrt4) State.reset))).map (·.phase) = some .idle := by decide
theorem test_V4 : (after? (step (busyWith rsqrt4 2))).map (·.phase) = some .busy := by decide
theorem test_V5 : (after? (step (busyWith rsqrt4 1))).map (fun s => (s.phase, s.req, s.rsp)) =
    some (.done, none, some 0x8000) := by decide
theorem test_V6 : (after? (step (driving (offering rsqrt4 false) (doneWith 0x8000)))).map (fun s => (s.phase, s.rsp)) =
    some (.done, some 0x8000) := by decide
theorem test_V7 : (after? (step (driving (offering rsqrt4 true) (doneWith 0x8000)))).map (fun s => (s.phase, s.req)) =
    some (.idle, none) := by decide
theorem test_V8 : refusal? (step (busyWith reserved 1)) = some .reservedOp := by decide
theorem test_V9 : (after? (step (busyWith ⟨1, 0, 0xDEADBEEF⟩ 1))).bind (·.rsp) = some 32 := by decide
theorem test_V10 : (after? (step (driving (resetting rsqrt4) (busyWith ⟨0, 0xFFFFFFFF, 0xFFFFFFFF⟩ 1)))).map
    (fun s => (s.phase, s.rsp)) = some (.idle, none) := by decide

/-- P4, edges E7 and E8: an offer made in DONE has to stand (R109). -/
theorem test_offer_withdrawn :
    refusal? (step { doneWith 8 with held := some rsqrt4, inputs := [idlePorts true] }) = some .requestChanged := by decide
/-- R109: not across a reset edge. -/
theorem test_offer_ends_at_reset :
    (after? (step { doneWith 8 with held := some rsqrt4, inputs := [resetting reserved] })).map (·.held) = some none := by
  decide
theorem test_reset_stays : after? (step State.reset) = some State.reset := by decide
theorem test_placed_runs_next :
    (after? (step (State.reset.withFetchWord 72 0x10001234500000000))).bind (·.rsp) = some 15 := by decide
theorem test_event_response : (doneWith 8).event = .response (some 8) := by decide
theorem test_event_request : (driving (offering rsqrt4 false) State.reset).event = .request rsqrt4 := by decide

end Sys2Proof.Machine.Tests
end

