-- ==== Sys2Proof/Tests/Witnesses.lean ====
section
/-! SUPPORT. For each statement with hypotheses, a concrete state and operands that meet them together; for a statement of
several clauses, one witness for each, at a boundary of its range. -/

namespace Sys2Proof.Machine.Tests

theorem inv_reset : Inv State.reset :=
  { reqInBusy := rfl, rspInDone := rfl, tableWf := by decide, leftInBusy := nofun, leftOutside := fun _ => rfl }

theorem inv_busyWith (r : Request) : Inv (busyWith r 1) :=
  { reqInBusy := rfl, rspInDone := rfl, tableWf := (by decide : defaultTable.wf = true), leftInBusy := fun _ => ⟨le_refl _, latMax_pos⟩
    leftOutside := fun h => absurd rfl h }

theorem inv_doneWith (v : DWord) : Inv (doneWith v) :=
  { reqInBusy := rfl, rspInDone := rfl, tableWf := (by decide : defaultTable.wf = true), leftInBusy := nofun, leftOutside := fun _ => rfl }

theorem inv_driving (p : Inputs) {s : State} (h : Inv s) : Inv (driving p s) :=
  { reqInBusy := h.reqInBusy, rspInDone := h.rspInDone, tableWf := h.tableWf, leftInBusy := h.leftInBusy
    leftOutside := h.leftOutside }

theorem witness_DecoderIsTotalByOp : bundleOp 0x0FFFFFFFFFFFFFFFF = 0#2 ∧ bundleOp 0x10000000000000000 = 1#2 ∧
    bundleOp 0x2FFFFFFFFFFFFFFFF = 2#2 ∧ bundleOp 0x30000000000000000 = 3#2 := by decide

theorem witness_NumbersDecodeOrAreRejectedByName :
    (decodeTableWord 72 (3 * 2 ^ 64 - 1)).isSome = true ∧ decodeNumber (3 * 2 ^ 64) = .error .reservedOp ∧
    decodeNumber (2 ^ 66 - 1) = .error .reservedOp ∧ decodeNumber (2 ^ 66) = .error .notABundle := by decide

theorem witness_ClzCompletesWithTheCount_lowest :
    (1 : Word).getLsbD 0 = true ∧ ∀ q, 0 < q → (1 : Word).getLsbD q = false := by
  refine ⟨by decide, fun q hq => ?_⟩
  simp [BitVec.getLsbD_one]; omega

theorem witness_ClzCompletesWithTheCount_highest :
    (0x80000000 : Word).getLsbD 31 = true ∧ ∀ q, 31 < q → (0x80000000 : Word).getLsbD q = false :=
  ⟨by decide, fun _ hq => BitVec.getLsbD_of_ge _ _ hq⟩

theorem witness_Mul32Laws : product 0xFFFFFFFF (1#32 <<< 31) = 0x7FFFFFFF80000000 ∧ (31 : Nat) < 32 := by decide

theorem witness_ShiftAddAccumulatesTheProduct :
    shiftAddAfter 0xFFFFFFFF 0xFFFFFFFF 32 = 0xFFFFFFFE00000001 ∧ (31 : Nat) < 32 := by decide

theorem witness_ClzLocatesTheHighestSetBit : (1 : Word) ≠ 0 ∧ (2 : Word) ≠ 0 ∧ 2 ≤ (2 : Word).toNat := by decide

theorem witness_FractionIsTheScaledDistance :
    2 ^ (exponent 3).toNat < (3 : Word).toNat ∧ 2 ≤ (3 : Word).toNat ∧
    2 ^ (exponent 0xFFFFFFFF).toNat < (0xFFFFFFFF : Word).toNat ∧
    2 ^ (exponent 0x00020001).toNat < (0x00020001 : Word).toNat := by decide

theorem witness_FractionIsTheScaledDistance_zero : (17 : Nat) ≤ (exponent 0x00020001).toNat ∧
    (0x00020001 : Word).toNat - 2 ^ (exponent 0x00020001).toNat < 2 ^ ((exponent 0x00020001).toNat - 16) := by decide

theorem witness_RsqrtReadsOnlyTwoEntries : defaultTable ≠ defaultTable.set 0 65537 ∧
    ∀ i : Fin 32, 1 ≤ i.val → lutRead defaultTable i.val = lutRead (defaultTable.set 0 65537) i.val := by decide

theorem witness_CorrectionIsBelowTheEstimate : defaultTable.wf = true ∧
    (2 ^ (exponent 3).toNat < (3 : Word).toNat ∧ (exponent 3).toNat < 31) ∧
    2 ^ (exponent 0xFFFFFFFF).toNat < (0xFFFFFFFF : Word).toNat ∧ lutRead defaultTable 31 ≠ 0 := by decide

theorem witness_TopOfTableStartsFromOne : 2 ^ 31 < (0x80000001 : Word).toNat ∧ (30 : BitVec 5).toNat < 31 ∧
    (31 : BitVec 5).toNat = 31 := by decide

theorem witness_DefaultResultsAreInRange : 2 ≤ (2 : Word).toNat ∧ rsqrt defaultTable 2 = 46341 ∧
    rsqrt defaultTable 0xFFFFFFFF = 1 := by decide

theorem witness_DefaultNewtonDropsNoBit : 2 ≤ (0x3FFFFFFF : Word).toNat ∧ estimate defaultTable 0x3FFFFFFF = 3 ∧
    newtonStep 0x3FFFFFFF (estimate defaultTable 0x3FFFFFFF) = 1 := by decide

theorem witness_TableParameterIsChecked_taken :
    (after? (State.launch (defaultTable.toList.map BitVec.toNat))).isSome = true := by decide

/-- One list for each check of R21 that refuses it: 31 entries, an entry of 2^32, two equal entries. -/
theorem witness_TableParameterIsChecked_refused :
    refusal? (State.launch ((defaultTable.toList.map BitVec.toNat).take 31)) = some .malformedTable ∧
    refusal? (State.launch ((defaultTable.toList.map BitVec.toNat).set 0 (2 ^ 32))) = some .malformedTable ∧
    refusal? (State.launch ((defaultTable.toList.map BitVec.toNat).set 19 128)) = some .malformedTable := by decide

theorem witness_TableParameterIsChecked_step : (lutRead (defaultTable.set 19 128) 18).toNat ≤
      (lutRead (defaultTable.set 19 128) 19).toNat ∧
    refusal? (step { State.reset with table := defaultTable.set 19 128 }) = some .malformedTable := by decide

theorem witness_TableIsNeverWritten : after? (runFor 2 (busyWith rsqrt4 1)) = some State.reset := by decide

theorem witness_StepRunsTheDecodedInstruction : (busyWith rsqrt4 1).table.wf = true ∧
    (busyWith rsqrt4 1).sampled.rst = false ∧ (busyWith rsqrt4 1).dutyKept (busyWith rsqrt4 1).sampled = true ∧
    (busyWith rsqrt4 1).busyLeft ≤ 1 ∧ decodeTableWord 72 (bundleOfRequest rsqrt4).toNat = some (.rsqrt 4 0) := by decide

theorem witness_PlacedInstructionRunsNext : State.reset.table.wf = true ∧
    decodeTableWord 72 0x20000006400000000 = some (.rsqrt 100 0) := by decide

/-- The guards of the edge table: reset, an idle edge with and without a request, a BUSY edge with and without the draw
and with the reserved op, a DONE edge with and without `rsp_ready`. -/
theorem witness_StepFollowsTheEdgeTable :
    (driving (resetting rsqrt4) (doneWith 8)).sampled.rst = true ∧
    (driving (offering rsqrt4 false) State.reset).sampled = offering rsqrt4 false ∧
    (driving (offering rsqrt4 false) State.reset).dutyKept (offering rsqrt4 false) = true ∧
    State.reset.sampled.reqValid = false ∧ (busyWith rsqrt4 2).fin = false ∧ (busyWith rsqrt4 1).fin = true ∧
    (busyWith reserved 1).req = some reserved ∧ responseValue defaultTable rsqrt4 = some 0x8000 ∧
    (driving (idlePorts true) (doneWith 8)).sampled.rspReady = true ∧
    (driving (idlePorts false) (doneWith 8)).sampled.rspReady = false := by decide

theorem witness_ResetEdgeGivesTheResetState : (driving (resetting rsqrt4) (busyWith rsqrt4 1)).table.wf = true ∧
    (driving (resetting rsqrt4) (busyWith rsqrt4 1)).sampled.rst = true := by decide

theorem witness_NothingPassesDuringReset : (resetting rsqrt4).rst = true := rfl

theorem witness_ReservedOpIsAcceptedThenRefused :
    (driving (offering reserved false) State.reset).sampled.request = reserved ∧ reserved.op = 3#2 ∧
    (after? (step (driving (offering reserved false) State.reset))).bind (·.req) = some reserved ∧
    refusal? (runFor 2 (busyWith reserved 1)) = some .reservedOp ∧ rsqrt4.op ≠ 3#2 := by decide

theorem witness_ResponseIsHeldStable :
    (after? (step (driving (offering rsqrt4 false) (doneWith 8)))).map (·.rspData) = some (some 8) ∧
    (after? (step (driving (offering rsqrt4 false) State.reset))).map (·.phase) = some .busy ∧
    (after? (step (busyWith rsqrt4 1))).map (·.phase) = some .done := by decide

theorem witness_OperandsAreCaptured :
    (busyWith rsqrt4 1).sampled.rst = false ∧ (driving (offering reserved true) (busyWith rsqrt4 1)).sampled.rst = false ∧
    (driving (offering reserved true) (busyWith rsqrt4 1)).dutyKept (offering reserved true) = true ∧
    (after? (step (busyWith rsqrt4 1))).isSome = true := by decide

theorem witness_ResponseDependsOnRequestAndTable :
    (after? (step (busyWith rsqrt4 1))).map (·.phase) = some .done ∧
    (after? (step (driving (offering reserved true) (busyWith rsqrt4 0)))).map (·.phase) = some .done := by decide

theorem witness_OfferedRequestMustStand :
    refusal? (step { doneWith 8 with held := some rsqrt4, inputs := [offering reserved true] }) = some .requestChanged ∧
    (after? (step (driving (offering rsqrt4 false) (doneWith 8)))).map (·.held) = some (some rsqrt4) ∧
    (after? (step { State.reset with held := some rsqrt4 })).map (fun t => (t.held, t.req)) = some (none, some rsqrt4) ∧
    (after? (step { doneWith 8 with held := some rsqrt4, inputs := [resetting reserved] })).isSome = true := by decide

theorem witness_TransactionsAreSpaced :
    (doneWith 8).responseTransfer (doneWith 8).sampled = true ∧
    (after? (step (doneWith 8))).map (·.phase) = some .idle ∧
    (driving (offering rsqrt4 false) State.reset).requestTransfer (offering rsqrt4 false) = true ∧
    (after? (step (driving (offering rsqrt4 false) State.reset))).map (·.phase) = some .busy ∧
    (busyWith rsqrt4 1).phase = .busy := by decide

theorem witness_StepKeepsTheInvariant : Inv (busyWith rsqrt4 1) ∧ (after? (step (busyWith rsqrt4 1))).isSome = true :=
  ⟨inv_busyWith _, by decide⟩

/-- A completing edge: the guards, and the value it writes. -/
theorem witness_RspIsAlwaysAnExecValue_completion :
    (busyWith rsqrt4 1).sampled.rst = false ∧ (busyWith rsqrt4 1).phase = .busy ∧ (busyWith rsqrt4 1).fin = true ∧
    (after? (step (busyWith rsqrt4 1))).bind (·.rsp) = responseValue defaultTable rsqrt4 := by decide

/-- The other edges: a reset and a response transfer clear `RSP`; DONE without `rsp_ready` and BUSY without the draw keep it. -/
theorem witness_RspIsAlwaysAnExecValue_otherwise :
    (after? (step (driving (resetting rsqrt4) (doneWith 8)))).map (·.rsp) = some none ∧
    (after? (step (driving (idlePorts true) (doneWith 8)))).map (·.rsp) = some none ∧
    (after? (step (driving (idlePorts false) (doneWith 8)))).map (·.rsp) = some (some 8) ∧
    (busyWith rsqrt4 2).fin = false ∧ (after? (step (busyWith rsqrt4 2))).map (·.rsp) = some none := by decide

theorem witness_NoFaultAndOnlyNamedRefusals_reserved :
    Inv (busyWith reserved 1) ∧ refusal? (step (busyWith reserved 1)) = some .reservedOp :=
  ⟨inv_busyWith _, by decide⟩

theorem witness_NoFaultAndOnlyNamedRefusals_changed :
    Inv { doneWith 8 with held := some rsqrt4, inputs := [idlePorts true] } ∧
    refusal? (step { doneWith 8 with held := some rsqrt4, inputs := [idlePorts true] }) = some .requestChanged :=
  ⟨{ inv_doneWith 8 with }, by decide⟩

theorem witness_BusyEndsWithinLatMax : Inv (busyWith rsqrt4 1) ∧
    ∀ j, j ≤ 0 → ∃ u, runFor j (busyWith rsqrt4 1) = .next u ∧ u.phase = .busy :=
  ⟨inv_busyWith _, fun j hj => by obtain rfl : j = 0 := by omega
                                  exact ⟨_, rfl, rfl⟩⟩

theorem witness_TransactionCompletes : Inv (busyWith rsqrt4 1) ∧ (busyWith rsqrt4 1).phase = .busy ∧
    responseValue (busyWith rsqrt4 1).table rsqrt4 = some 0x8000 ∧ RequesterKeeps (busyWith rsqrt4 1).busyLeft (busyWith rsqrt4 1) :=
  ⟨inv_busyWith _, rfl, by decide, requesterKeeps_of_quiet _ rfl⟩

/-- A requester that offers `rsqrt 4` in IDLE and is quiet from then on keeps its duties over any number of edges, and is
ready for the response. -/
theorem offering_then_quiet (n : Nat) :
    RequesterKeeps (n + 2) (driving (offering rsqrt4 false) State.reset) ∧
    ∀ u, runFor (n + 1) (driving (offering rsqrt4 false) State.reset) = .next u → u.sampled.rspReady = true := by
  have quiet : ∀ u, step (driving (offering rsqrt4 false) State.reset) = .next u → u.inputs = [] := fun u hu => by
    simp [step_inputs hu, driving]
  constructor
  · intro j u hj hu
    cases j with
    | zero => cases hu; decide
    | succ j =>
      obtain ⟨w, hw, hu⟩ := runFor_succ_next hu
      exact requesterKeeps_of_quiet (n + 2) (quiet w hw) j u (by omega) hu
  · intro u hu
    obtain ⟨w, hw, hu⟩ := runFor_succ_next hu
    exact rspReady_of_quiet (quiet w hw) hu

/-- That requester meets every hypothesis, for the latency its transfer draws. -/
theorem witness_RequestIsAnsweredByExec :
    let s := driving (offering rsqrt4 false) State.reset
    let n := latency s.draws s.sampled.request
    Inv s ∧ s.phase = .idle ∧ s.sampled.reqValid = true ∧ responseValue s.table s.sampled.request = some 0x8000 ∧
    RequesterKeeps (n + 2) s ∧ ∀ u, runFor (n + 1) s = .next u → u.sampled.rspReady = true :=
  ⟨inv_driving _ inv_reset, rfl, rfl, (by decide : responseValue defaultTable rsqrt4 = some 0x8000),
    offering_then_quiet _⟩

/-- A response and then a reset with a request in flight after it: one response stands since the start, none since the
reset. -/
theorem witness_ResponsesFollowRequestsInOrder : Inv State.reset ∧ State.reset.phase = .idle ∧
    (after? (runFor 1 State.reset)).isSome = true ∧
    sinceReset [] [.request rsqrt4, .quiet, .response (some 0x8000), .request rsqrt4, .reset] = [] :=
  ⟨inv_reset, rfl, by decide, by decide⟩

theorem witness_RunEndsWellExactlyInIdle : Inv State.reset ∧ EndsWell 1 State.reset :=
  ⟨inv_reset, State.reset, rfl, rfl, rfl⟩

end Sys2Proof.Machine.Tests
end

section
/-! SUPPORT. The step forwards: what it answers under each guard of the edge table (10_state.md R33), one equation for
each block. `step_cases` reads the same table backwards. -/

namespace Sys2Proof.Machine

/-- What REQ decodes to runs to the completion with EXEC of the request (R33, R53). -/
theorem exec_of_decodeRequest {r : Request} {i : Instr} (s : State) (h : decodeRequest r = .ok i) :
    ∃ v, responseValue s.table r = some v ∧ exec i s = .next (s.complete v) := by
  obtain ⟨op, a, b⟩ := r
  match op with
  | 0#2 => cases h; exact ⟨_, rfl, rfl⟩
  | 1#2 => cases h; exact ⟨_, rfl, rfl⟩
  | 2#2 => cases h; exact ⟨_, rfl, rfl⟩
  | 3#2 => cases h

/-- EXEC has no value exactly for the reserved op (R53, R56). -/
theorem responseValue_eq_none_iff (t : Rom) (r : Request) : responseValue t r = none ↔ r.op = 3#2 := by
  obtain ⟨op, a, b⟩ := r
  match op with
  | 0#2 => simp [responseValue]
  | 1#2 => simp [responseValue]
  | 2#2 => simp [responseValue]
  | 3#2 => simp [responseValue]

theorem completion_of_responseValue {s : State} {r : Request} {v : DWord} (hq : s.req = some r)
    (hv : responseValue s.table r = some v) : completion s = .next (s.complete v) := by
  cases hi : decodeRequest r with
  | ok i =>
    obtain ⟨w, hw, he⟩ := exec_of_decodeRequest s hi
    obtain rfl : w = v := Option.some.inj (hw.symm.trans hv)
    simp only [completion, hq, hi, he]
  | error e =>
    have hop : r.op = 3#2 := (decodeRequest_error_iff r).mp ⟨e, hi⟩
    cases hv.symm.trans ((responseValue_eq_none_iff s.table r).mpr hop)

theorem completion_of_reserved {s : State} {r : Request} (hq : s.req = some r) (hop : r.op = 3#2) :
    completion s = .refused .reservedOp := by
  obtain ⟨e, he⟩ := (decodeRequest_error_iff r).mpr hop
  simp only [completion, hq, he]

@[simp] theorem State.passEdge_fin (s : State) (p : Inputs) : (s.passEdge p).fin = s.fin := rfl

/-- The reset edge, whatever the phase (R31, R94). -/
theorem step_of_rst {s : State} (hw : s.table.wf = true) (hr : s.sampled.rst = true) :
    step s = .next s.consumeEdge.takeReset := by
  rw [step, edge, if_pos hw, if_pos hr]

section NoReset

/-! The edges without reset of a unit with a well-formed table whose requester keeps its offer (R109). -/

variable {s : State} (hw : s.table.wf = true) (hr : s.sampled.rst = false) (hd : s.dutyKept s.sampled = true)
include hw hr hd

/-- Without reset the phase alone decides which block runs. -/
theorem step_of_not_rst : step s = edgePhase s.sampled (s.passEdge s.sampled) := by
  rw [step, edge, if_pos hw, if_neg (by simp [hr]), if_pos hd]

theorem step_of_idle (hp : s.phase = .idle) : step s = edgeIdle s.sampled (s.passEdge s.sampled) := by
  rw [step_of_not_rst hw hr hd, edgePhase, State.passEdge_phase, hp]

theorem step_of_busy (hp : s.phase = .busy) : step s = edgeBusy (s.passEdge s.sampled) := by
  rw [step_of_not_rst hw hr hd, edgePhase, State.passEdge_phase, hp]

theorem step_of_done (hp : s.phase = .done) : step s = edgeDone s.sampled (s.passEdge s.sampled) := by
  rw [step_of_not_rst hw hr hd, edgePhase, State.passEdge_phase, hp]

theorem step_idle_of_reqValid (hp : s.phase = .idle) (hv : s.sampled.reqValid = true) :
    step s = .next ((s.passEdge s.sampled).acceptRequest s.sampled.request) := by
  rw [step_of_idle hw hr hd hp, edgeIdle, if_pos hv]

theorem step_idle_of_not_reqValid (hp : s.phase = .idle) (hv : s.sampled.reqValid = false) :
    step s = .next (s.passEdge s.sampled) := by
  rw [step_of_idle hw hr hd hp, edgeIdle, if_neg (by simp [hv])]

theorem step_busy_of_not_fin (hp : s.phase = .busy) (hf : s.fin = false) :
    step s = .next (s.passEdge s.sampled).wait := by
  rw [step_of_busy hw hr hd hp, edgeBusy, State.passEdge_fin, if_neg (by simp [hf])]

theorem step_busy_of_fin (hp : s.phase = .busy) (hf : s.fin = true) :
    step s = completion (s.passEdge s.sampled) := by
  rw [step_of_busy hw hr hd hp, edgeBusy, State.passEdge_fin, if_pos hf]

theorem step_busy_of_reserved {r : Request} (hp : s.phase = .busy) (hf : s.fin = true) (hq : s.req = some r)
    (hop : r.op = 3#2) : step s = .refused .reservedOp :=
  (step_busy_of_fin hw hr hd hp hf).trans (completion_of_reserved hq hop)

theorem step_busy_of_responseValue {r : Request} {v : DWord} (hp : s.phase = .busy) (hf : s.fin = true)
    (hq : s.req = some r) (hv : responseValue s.table r = some v) :
    step s = .next ((s.passEdge s.sampled).complete v) :=
  (step_busy_of_fin hw hr hd hp hf).trans (completion_of_responseValue hq hv)

theorem step_done_of_rspReady (hp : s.phase = .done) (hy : s.sampled.rspReady = true) :
    step s = .next (s.passEdge s.sampled).releaseResponse := by
  rw [step_of_done hw hr hd hp, edgeDone, if_pos hy]

theorem step_done_of_not_rspReady (hp : s.phase = .done) (hy : s.sampled.rspReady = false) :
    step s = .next (s.passEdge s.sampled) := by
  rw [step_of_done hw hr hd hp, edgeDone, if_neg (by simp [hy])]

end NoReset

/-- A step from BUSY to DONE is the completion, and it writes EXEC of the request into RSP (R29, R33). -/
theorem step_busy_done_rsp {s t : State} {r : Request} (hp : s.phase = .busy) (hq : s.req = some r)
    (h : step s = .next t) (ht : t.phase = .done) : t.rsp = responseValue s.table r := by
  cases step_cases h with
  | reset => cases ht
  | accept => cases ht
  | idle _ _ hidle => cases hp.symm.trans hidle
  | wait => cases hp.symm.trans ht
  | complete q i v _ _ _ _ hq' hi he =>
    obtain rfl : r = q := Option.some.inj (hq.symm.trans hq')
    obtain ⟨w, hw, he'⟩ := exec_of_decodeRequest (s.passEdge s.sampled) hi
    have hrsp : some v = some w := congrArg State.rsp (Host.Outcome.next.inj (he.symm.trans he'))
    exact hrsp.trans hw.symm
  | release => cases ht
  | offer _ _ hdone => cases hp.symm.trans hdone

end Sys2Proof.Machine
end

section
/-! SUPPORT. The statements about the state, the outputs and the edge table (10_state.md), settled. -/

namespace Sys2Proof.Machine

/-- The outputs in IDLE, with and without reset (R30, R31). -/
theorem outputs_of_idle {t : State} (hp : t.phase = .idle) :
    t.reqReady true = false ∧ t.reqReady false = true ∧ (∀ b, t.rspValid b = false) ∧ t.rspData = none := by
  refine ⟨?_, ?_, fun b => ?_, rspData_not_done t (by simp [hp])⟩
  · simp [State.reqReady]
  · simp [hp]
  · simp [State.rspValid, hp]

/-- Settles O31: each block of the edge table is the equation of the step under its guard; the drawn count is the
latency, which lies in [1, `LAT_MAX`]. -/
theorem stepFollowsTheEdgeTable : Obligations.StepFollowsTheEdgeTable := by
  rintro s _ hw rfl
  refine ⟨step_of_rst hw, ?_⟩
  rintro hr hd _ rfl
  refine ⟨fun hp hv => ?accept, step_idle_of_not_reqValid hw hr hd, step_busy_of_not_fin hw hr hd,
    fun hp hf _ => step_busy_of_reserved hw hr hd hp hf, fun hp hf _ _ => step_busy_of_responseValue hw hr hd hp hf,
    step_done_of_rspReady hw hr hd, step_done_of_not_rspReady hw hr hd⟩
  case accept =>
    exact ⟨latency s.draws s.sampled.request, latency_pos _ _, latency_le _ _, step_idle_of_reqValid hw hr hd hp hv⟩

/-- Settles O32: the reset edge is `takeReset`, whose phase is IDLE, and the outputs of IDLE are R31's. -/
theorem resetEdgeGivesTheResetState : Obligations.ResetEdgeGivesTheResetState := by
  refine ⟨fun s hw hr => ?_, rfl, rfl, rfl, rfl, outputs_of_idle rfl⟩
  exact ⟨s.consumeEdge.takeReset, step_of_rst hw hr, rfl, rfl, rfl, rfl, outputs_of_idle rfl⟩

/-- Settles O38: both completions write EXEC of the same request with the same table. -/
theorem responseDependsOnRequestAndTable : Obligations.ResponseDependsOnRequestAndTable := by
  intro s s' t t' r htab hp hp' hq hq' h h' ht ht'
  have hrsp : t.rsp = responseValue s.table r := step_busy_done_rsp hp hq h ht
  have hrsp' : t'.rsp = responseValue s'.table r := step_busy_done_rsp hp' hq' h' ht'
  exact ⟨by rw [hrsp, hrsp', htab], hrsp⟩

/-- Settles O26: the literals and the order are closed facts, and so are the integer bounds at each of the 32 exponents
and the exactness at each of the 16 even ones. -/
theorem defaultTableIsTheFormula : Obligations.DefaultTableIsTheFormula := by
  refine ⟨?literals, ?nearest, ?exact_at_even, ?ordered⟩
  case literals => decide
  case nearest => decide
  case exact_at_even => decide
  case ordered => decide

/-- Settles O34: the three outputs as their laws give them. -/
theorem outputsFollowPhaseAndReset : Obligations.OutputsFollowPhaseAndReset :=
  fun s rst => ⟨reqReady_iff s rst, rspValid_iff s rst, rspData_done s, rspData_not_done s⟩

end Sys2Proof.Machine
end

section
/-! SUPPORT. The reserved op over a run (30_encoding.md R56), settled. -/

namespace Sys2Proof.Machine

/-- A refusal at the first edge is the outcome of the whole run. -/
theorem runFor_succ_of_refused {s : State} {e : Refusal} (k : Nat) (h : step s = .refused e) :
    runFor (k + 1) s = .refused e := by
  simp only [runFor, h]

/-- A refused edge has no event, and the run has none after it. -/
theorem events_succ_of_refused {s : State} {e : Refusal} (k : Nat) (h : step s = .refused e) :
    events (k + 1) s = [] := by
  simp only [events, h]

/-- Every other op decodes, whatever the operands (R53, R56). -/
theorem exists_decodeRequest_of_op_ne {r : Request} (hop : r.op ≠ 3#2) : ∃ i, decodeRequest r = .ok i := by
  cases hd : decodeRequest r with
  | ok i => exact ⟨i, rfl⟩
  | error e => exact absurd ((decodeRequest_error_iff r).mp ⟨e, hd⟩) hop

/-- Settles O35: the IDLE edge accepts without a look at the op, and the completing edge refuses it, which ends the run. -/
theorem reservedOpIsAcceptedThenRefused : Obligations.ReservedOpIsAcceptedThenRefused := by
  refine ⟨?accepted, ?refused, fun _ => exists_decodeRequest_of_op_ne⟩
  case accepted =>
    rintro s _ hw hr hd _ rfl hv hp
    exact ⟨_, step_idle_of_reqValid hw hr hd hp hv, rfl, rfl⟩
  case refused =>
    intro s r hw hr hd hop hq hp hf k
    have hstep : step s = .refused .reservedOp := step_busy_of_reserved hw hr hd hp hf hq hop
    exact ⟨runFor_succ_of_refused k hstep, events_succ_of_refused k hstep⟩

end Sys2Proof.Machine
end

section
/-! SUPPORT. The multiplier (40_mul32.md), settled: every product fits in 64 bits (R59), so each law of R62 is a law of the
product of naturals, and the shift-and-add loop (R60) adds up the low bits of `b` without a carry out (R61). -/

namespace Sys2Proof.Machine

theorem toNat_mul_toNat_lt (a b : Word) : a.toNat * b.toNat < 2 ^ 64 :=
  (Nat.mul_lt_mul'' a.isLt b.isLt).trans_eq (Nat.pow_add 2 32 32).symm

/-- The product is exact: nothing is lost in 64 bits (R59). -/
@[simp] theorem product_toNat (a b : Word) : (product a b).toNat = a.toNat * b.toNat :=
  (BitVec.toNat_ofNat _ 64).trans (Nat.mod_eq_of_lt (toNat_mul_toNat_lt a b))

@[simp] theorem zext64_toNat (w : Word) : (zext64 w).toNat = w.toNat :=
  BitVec.toNat_setWidth_of_le (by decide)

@[simp] theorem low32_toNat (v : DWord) : (low32 v).toNat = v.toNat % 2 ^ 32 :=
  BitVec.toNat_setWidth 32 v

/-- A right shift of a product is the floored quotient by the power of two (R62). -/
theorem product_ushiftRight_toNat (a b : Word) (k : Nat) :
    (product a b >>> k).toNat = a.toNat * b.toNat / 2 ^ k := by
  rw [BitVec.toNat_ushiftRight, product_toNat, Nat.shiftRight_eq_div_pow]

theorem one_shiftLeft_toNat {k : Nat} (hk : k < 32) : (1#32 <<< k).toNat = 2 ^ k := by
  rw [← BitVec.twoPow_eq, BitVec.toNat_twoPow_of_lt hk]

/-- The operand at bit position `i` of the loop is `a * 2^i`: a word shifted by less than 32 stays within 64 bits (R60). -/
theorem zext64_shiftLeft_toNat (a : Word) {i : Nat} (hi : i < 32) : (zext64 a <<< i).toNat = a.toNat * 2 ^ i := by
  have hlt : a.toNat * 2 ^ i < 2 ^ 64 := one_shiftLeft_toNat hi ▸ toNat_mul_toNat_lt a (1#32 <<< i)
  rw [BitVec.toNat_shiftLeft, zext64_toNat, Nat.shiftLeft_eq, Nat.mod_eq_of_lt hlt]

/-- Settles O9: each law is the law of naturals under `product_toNat`. -/
theorem mul32Laws : Obligations.Mul32Laws := by
  refine fun a b => ⟨?commutes, ?zero, ?one, fun k hk => ?power_of_two, ?low_half, product_ushiftRight_toNat a b⟩
  case commutes => rw [product, product, Nat.mul_comm]
  case zero => simp [product]
  case one => exact BitVec.eq_of_toNat_eq (by simp)
  case power_of_two => rw [product_toNat, one_shiftLeft_toNat hk]
  case low_half => rw [low32_toNat, product_toNat]

theorem shiftAddAfter_succ_of_set {a b : Word} {i : Nat} (h : b.getLsbD i = true) :
    shiftAddAfter a b (i + 1) = shiftAddAfter a b i + (zext64 a <<< i) := if_pos h

theorem shiftAddAfter_succ_of_clear {a b : Word} {i : Nat} (h : b.getLsbD i = false) :
    shiftAddAfter a b (i + 1) = shiftAddAfter a b i := by
  rw [shiftAddAfter, if_neg (by simp [h])]

/-- The low `i + 1` bits of a word are its low `i` bits and bit `i`. -/
theorem toNat_mod_two_pow_succ (b : Word) (i : Nat) :
    b.toNat % 2 ^ (i + 1) = b.toNat % 2 ^ i + 2 ^ i * (b.getLsbD i).toNat := by
  rw [Nat.mod_pow_succ, BitVec.getLsbD, Nat.toNat_testBit]

/-- The loop's invariant: after `i` bit positions the accumulator is `a` times the low `i` bits of `b` (R60). -/
theorem shiftAddAfter_toNat (a b : Word) (i : Nat) : (shiftAddAfter a b i).toNat = a.toNat * (b.toNat % 2 ^ i) := by
  induction i with
  | zero => simp [shiftAddAfter, Nat.mod_one]
  | succ i ih =>
    have hmod := toNat_mod_two_pow_succ b i
    cases hb : b.getLsbD i with
    | false => rw [shiftAddAfter_succ_of_clear hb, ih, hmod, hb, Bool.toNat_false, Nat.mul_zero, Nat.add_zero]
    | true =>
      have hsum : a.toNat * (b.toNat % 2 ^ i) + a.toNat * 2 ^ i = a.toNat * (b.toNat % 2 ^ (i + 1)) := by
        rw [hmod, hb, Bool.toNat_true, Nat.mul_one, Nat.mul_add]
      have hlt : a.toNat * (b.toNat % 2 ^ (i + 1)) < 2 ^ 64 :=
        (Nat.mul_le_mul_left _ (Nat.mod_le _ _)).trans_lt (toNat_mul_toNat_lt a b)
      rw [shiftAddAfter_succ_of_set hb, BitVec.toNat_add, ih, zext64_shiftLeft_toNat a (BitVec.lt_of_getLsbD hb), hsum,
        Nat.mod_eq_of_lt hlt]

/-- The accumulator's bound at each bit position (R61). -/
theorem shiftAddAfter_toNat_le (a b : Word) (i : Nat) :
    (shiftAddAfter a b i).toNat ≤ (2 ^ 32 - 1) * (2 ^ i - 1) := by
  rw [shiftAddAfter_toNat]
  exact Nat.mul_le_mul (Nat.le_sub_one_of_lt a.isLt) (Nat.le_sub_one_of_lt (Nat.mod_lt _ (Nat.two_pow_pos i)))

/-- R61's bound lies below 2^64 up to the last of the 32 positions. -/
theorem shiftAdd_bound_lt {i : Nat} (hi : i ≤ 32) : (2 ^ 32 - 1) * (2 ^ i - 1) < 2 ^ 64 := by
  have hpow : 2 ^ i ≤ 2 ^ 32 := Nat.pow_le_pow_right Nat.two_pos hi
  omega

/-- After all 32 positions the low bits of `b` are all of `b`, so the mechanism gives MUL32's product (R60). -/
theorem shiftAdd_eq_product (a b : Word) : shiftAdd a b = product a b :=
  BitVec.eq_of_toNat_eq (by rw [shiftAdd, shiftAddAfter_toNat, Nat.mod_eq_of_lt b.isLt, product_toNat])

/-- Settles O10: the loop's invariant, R61's bound and that it fits in 64 bits, and the result after the last position. -/
theorem shiftAddAccumulatesTheProduct : Obligations.ShiftAddAccumulatesTheProduct :=
  fun a b => ⟨fun i _ => shiftAddAfter_toNat a b i, fun i _ => shiftAddAfter_toNat_le a b (i + 1),
    fun _ hi => shiftAdd_bound_lt hi, shiftAdd_eq_product a b⟩

end Sys2Proof.Machine
end

section
/-! SUPPORT. The leading-zero count (41_clz.md), settled: the highest set bit is the binary logarithm, so the count and
the logarithm of a nonzero operand add up to 31 (R67). -/

namespace Sys2Proof.Machine

theorem highestSetBelow_succ_of_set {a : Word} {n : Nat} (h : a.getLsbD n = true) :
    highestSetBelow a (n + 1) = some n := if_pos h

theorem highestSetBelow_succ_of_clear {a : Word} {n : Nat} (h : a.getLsbD n = false) :
    highestSetBelow a (n + 1) = highestSetBelow a n := by
  rw [highestSetBelow, if_neg (by simp [h])]

/-- The search below `n` finds the logarithm of the low `n` bits, if one of them is set (R65). -/
theorem highestSetBelow_eq_log2 {a : Word} {n : Nat} (h : a.toNat % 2 ^ n ≠ 0) :
    highestSetBelow a n = some (a.toNat % 2 ^ n).log2 := by
  induction n with
  | zero => exact absurd (Nat.mod_one _) h
  | succ n ih =>
    have hmod := toNat_mod_two_pow_succ a n
    cases hb : a.getLsbD n with
    | false =>
      simp only [hb, Bool.toNat_false, Nat.mul_zero, Nat.add_zero] at hmod
      rw [highestSetBelow_succ_of_clear hb, hmod, ih (hmod ▸ h)]
    | true =>
      simp only [hb, Bool.toNat_true, Nat.mul_one] at hmod
      have hlog : (a.toNat % 2 ^ (n + 1)).log2 = n :=
        (Nat.log2_eq_iff h).mpr ⟨hmod ▸ Nat.le_add_left _ _, Nat.mod_lt _ (Nat.two_pow_pos _)⟩
      rw [highestSetBelow_succ_of_set hb, hlog]

theorem countLeadingZeros_zero : countLeadingZeros 0 = 32 := by decide

/-- `e = 31 − CLZ(a)` is the logarithm of a nonzero `a` (R67). -/
theorem log2_add_countLeadingZeros {a : Word} (h : a ≠ 0) : a.toNat.log2 + (countLeadingZeros a).toNat = 31 := by
  have hne : a.toNat ≠ 0 := (BitVec.toNat_pos_of_ne_zero h).ne'
  have hlog : a.toNat.log2 < 32 := (Nat.log2_lt hne).mpr a.isLt
  have hmod : a.toNat % 2 ^ 32 = a.toNat := Nat.mod_eq_of_lt a.isLt
  have hsearch : highestSetBelow a 32 = some a.toNat.log2 := by
    rw [highestSetBelow_eq_log2 (hmod.trans_ne hne), hmod]
  simp only [countLeadingZeros, hsearch, BitVec.toNat_ofNat]
  omega

/-- The count is at most the width of the operand (R68). -/
theorem countLeadingZeros_le (a : Word) : (countLeadingZeros a).toNat ≤ 32 := by
  by_cases h : a = 0
  · rw [h, countLeadingZeros_zero]; decide
  · exact (Nat.le_add_left _ _).trans ((log2_add_countLeadingZeros h).trans_le (by decide))

@[simp] theorem packCount_toNat (c : BitVec 6) : (packCount c).toNat = c.toNat :=
  BitVec.toNat_setWidth_of_le (by decide)

/-- A packed count has zeros in bits 63:6 (R55). -/
theorem packCount_high (c : BitVec 6) : (packCount c).extractLsb' 6 58 = 0 := by
  apply BitVec.eq_of_toNat_eq
  rw [BitVec.extractLsb'_toNat, packCount_toNat, Nat.shiftRight_eq_zero _ _ c.isLt]
  rfl

theorem exec_clz (a b : Word) (s : State) :
    exec (.clz a b) s = .next (s.complete (packCount (countLeadingZeros a))) := rfl

/-- Settles O14: the zero case, and the search finds bit 31 and bit 0. -/
theorem clzSourceTests : Obligations.ClzSourceTests := by
  refine ⟨countLeadingZeros_zero, ?top_bit, ?lowest_bit⟩
  case top_bit => decide
  case lowest_bit => decide

/-- Settles O13: the response is the packed count, whose value and upper bits are those of the count. -/
theorem clzResponseInRange : Obligations.ClzResponseInRange :=
  fun a b s => ⟨_, _, exec_clz a b s, State.complete_rsp s _, (packCount_toNat _).trans_le (countLeadingZeros_le a),
    packCount_high _⟩

/-- Settles O12: the exponent is the logarithm of `a`. -/
theorem clzLocatesTheHighestSetBit : Obligations.ClzLocatesTheHighestSetBit := by
  intro a h
  have hne : a.toNat ≠ 0 := (BitVec.toNat_pos_of_ne_zero h).ne'
  exact ⟨a.toNat.log2, log2_add_countLeadingZeros h, Nat.log2_self_le hne, Nat.lt_log2_self,
    (Nat.le_log2 (k := 1) hne).mpr⟩

end Sys2Proof.Machine
end

section
/-! SUPPORT. The count cascade (41_clz.md R66), settled: it shifts a nonzero operand to the left until the highest set bit
is bit 31, and halves with each step how far that bit can still be away. -/

namespace Sys2Proof.Machine

theorem ushiftRight_eq_zero_iff (v : Word) (j : Nat) : v >>> j = 0 ↔ v.toNat < 2 ^ j := by
  rw [← BitVec.toNat_inj, BitVec.toNat_ushiftRight, Nat.shiftRight_eq_div_pow]
  exact Nat.div_eq_zero_iff_lt (Nat.two_pow_pos j)

theorem cascadeStep_of_lt {k c : Nat} {v : Word} (h : v.toNat < 2 ^ (32 - k)) :
    cascadeStep k (c, v) = (c + k, v <<< k) := if_pos ((ushiftRight_eq_zero_iff v _).mpr h)

theorem cascadeStep_of_le {k c : Nat} {v : Word} (h : 2 ^ (32 - k) ≤ v.toNat) : cascadeStep k (c, v) = (c, v) :=
  if_neg fun hz => Nat.not_lt.mpr h ((ushiftRight_eq_zero_iff v _).mp hz)

/-- The cascade's invariant, for a pair of a count and a value: the value is `a` shifted left by the count with nothing
shifted out, and it has fewer than `k` leading zeros. -/
structure CascadeInv (a : Word) (k : Nat) (nv : Nat × Word) : Prop where
  value : nv.2.toNat = a.toNat * 2 ^ nv.1
  top   : 2 ^ (32 - k) ≤ nv.2.toNat

theorem cascadeInv_start {a : Word} (h : a ≠ 0) : CascadeInv a 32 (0, a) where
  value := (Nat.mul_one _).symm
  top := BitVec.toNat_pos_of_ne_zero h

/-- Each step of the cascade halves the bound on the leading zeros that remain (R66). -/
theorem cascadeStep_keeps_inv {a : Word} {k : Nat} {nv : Nat × Word} (hk : k + k ≤ 32)
    (h : CascadeInv a (k + k) nv) : CascadeInv a k (cascadeStep k nv) := by
  obtain ⟨c, v⟩ := nv
  obtain ⟨hvalue, htop⟩ := h
  have hsplit : (2 : Nat) ^ 32 = 2 ^ (32 - k) * 2 ^ k := by rw [← Nat.pow_add]; congr 1; omega
  have hsplit' : (2 : Nat) ^ (32 - k) = 2 ^ (32 - (k + k)) * 2 ^ k := by rw [← Nat.pow_add]; congr 1; omega
  rcases Nat.lt_or_ge v.toNat (2 ^ (32 - k)) with hlt | hge
  · have hfits : v.toNat * 2 ^ k < 2 ^ 32 := hsplit ▸ Nat.mul_lt_mul_of_pos_right hlt (Nat.two_pow_pos k)
    have hshift : (v <<< k).toNat = v.toNat * 2 ^ k := by
      rw [BitVec.toNat_shiftLeft, Nat.shiftLeft_eq, Nat.mod_eq_of_lt hfits]
    rw [cascadeStep_of_lt hlt]
    exact ⟨by rw [hshift, hvalue, Nat.pow_add, Nat.mul_assoc], hshift ▸ hsplit' ▸ Nat.mul_le_mul_right _ htop⟩
  · rw [cascadeStep_of_le hge]
    exact ⟨hvalue, hge⟩

/-- With no leading zero left, the logarithm of `a` and the count add up to 31. -/
theorem log2_add_count_of_cascadeInv {a : Word} {nv : Nat × Word} (ha : a ≠ 0) (h : CascadeInv a 1 nv) :
    a.toNat.log2 + nv.1 = 31 := by
  obtain ⟨hvalue, htop⟩ := h
  have hlow : 2 ^ (a.toNat.log2 + nv.1) < 2 ^ 32 :=
    calc 2 ^ (a.toNat.log2 + nv.1) = 2 ^ a.toNat.log2 * 2 ^ nv.1 := Nat.pow_add ..
      _ ≤ a.toNat * 2 ^ nv.1 := Nat.mul_le_mul_right _ (Nat.log2_self_le (BitVec.toNat_pos_of_ne_zero ha).ne')
      _ = nv.2.toNat := hvalue.symm
      _ < 2 ^ 32 := nv.2.isLt
  have hhigh : 2 ^ 31 < 2 ^ (a.toNat.log2 + 1 + nv.1) :=
    calc 2 ^ 31 ≤ nv.2.toNat := htop
      _ = a.toNat * 2 ^ nv.1 := hvalue
      _ < 2 ^ (a.toNat.log2 + 1) * 2 ^ nv.1 := Nat.mul_lt_mul_of_pos_right Nat.lt_log2_self (Nat.two_pow_pos _)
      _ = 2 ^ (a.toNat.log2 + 1 + nv.1) := (Nat.pow_add ..).symm
  have hle := (Nat.pow_lt_pow_iff_right Nat.one_lt_two).mp hlow
  have hge := (Nat.pow_lt_pow_iff_right Nat.one_lt_two).mp hhigh
  omega

theorem log2_add_clzCascade {a : Word} (h : a ≠ 0) : a.toNat.log2 + clzCascade a = 31 := by
  have h16 := cascadeStep_keeps_inv (k := 16) (by decide) (cascadeInv_start h)
  have h8 := cascadeStep_keeps_inv (k := 8) (by decide) h16
  have h4 := cascadeStep_keeps_inv (k := 4) (by decide) h8
  have h2 := cascadeStep_keeps_inv (k := 2) (by decide) h4
  have h1 := cascadeStep_keeps_inv (k := 1) (by decide) h2
  rw [clzCascade, if_neg h]
  exact log2_add_count_of_cascadeInv h h1

/-- Settles O11: zero is a case of its own, and of a nonzero `a` both counts are 31 less its logarithm. -/
theorem clzCascadeAgrees : Obligations.ClzCascadeAgrees := by
  intro a
  by_cases h : a = 0
  · subst h; decide
  · exact Nat.add_left_cancel ((log2_add_clzCascade h).trans (log2_add_countLeadingZeros h).symm)

end Sys2Proof.Machine
end

section
/-! SUPPORT. The reciprocal square root (42_rsqrt.md) at the two special operands (R72, R73) and at the powers of two
(R89), settled. -/

namespace Sys2Proof.Machine

theorem exec_rsqrt (a b : Word) (s : State) :
    exec (.rsqrt a b) s = .next (s.complete (zext64 (rsqrt s.table a))) := rfl

@[simp] theorem rsqrt_zero (t : Rom) : rsqrt t 0 = 0xFFFFFFFF := if_pos rfl

@[simp] theorem rsqrt_one (t : Rom) : rsqrt t 1 = 0x00010000 :=
  (if_neg (by decide)).trans (if_pos rfl)

/-- Settles O15: the completion of RSQRT with its value at 0. -/
theorem rsqrtOfZeroIsTheSentinel : Obligations.RsqrtOfZeroIsTheSentinel := by
  intro b s
  rw [exec_rsqrt, rsqrt_zero]
  rfl

/-- Settles O16: the completion of RSQRT with its value at 1. -/
theorem rsqrtOfOneIsExact : Obligations.RsqrtOfOneIsExact := by
  intro b s
  rw [exec_rsqrt, rsqrt_one]
  rfl

/-- The whole list of R89: a closed fact at each of the 32 exponents. -/
theorem rsqrt_two_pow (e : Fin 32) : (rsqrt defaultTable (1#32 <<< e.val)).toNat =
    if e.val ∈ [7, 19, 23, 27, 29] then entryNat defaultTable e.val - 1 else entryNat defaultTable e.val := by
  revert e
  decide

/-- Settles O24: the values at the six named exponents are read off the general one. -/
theorem powersOfTwo : Obligations.PowersOfTwo := by
  refine ⟨rsqrt_two_pow, rsqrt_two_pow 7, rsqrt_two_pow 19, rsqrt_two_pow 23, rsqrt_two_pow 27, rsqrt_two_pow 29,
    rsqrt_two_pow 30, ?ordered⟩
  case ordered => decide

end Sys2Proof.Machine
end

section
/-! SUPPORT. The interpolation of the reciprocal square root (42_rsqrt.md R74 to R80), settled: a nonzero operand lies in
[2^e, 2^(e+1)) for its exponent e, so its distance from 2^e is below 2^e, no step of the 64-bit fraction loses a bit, and
the fraction is below 2^16. -/

namespace Sys2Proof.Machine

theorem ne_zero_of_toNat_pos {x : Word} (h : 0 < x.toNat) : x ≠ 0 := fun hz => h.ne' (congrArg BitVec.toNat hz)

/-- The exponent of a nonzero operand is its logarithm (R74). -/
theorem exponent_toNat {x : Word} (h : x ≠ 0) : (exponent x).toNat = x.toNat.log2 := by
  have hsum := log2_add_countLeadingZeros h
  rw [exponent, BitVec.toNat_ofNat]
  omega

theorem two_pow_exponent_le {x : Word} (h : x ≠ 0) : 2 ^ (exponent x).toNat ≤ x.toNat :=
  exponent_toNat h ▸ Nat.log2_self_le (BitVec.toNat_pos_of_ne_zero h).ne'

theorem lt_two_pow_exponent_succ {x : Word} (h : x ≠ 0) : x.toNat < 2 ^ ((exponent x).toNat + 1) :=
  exponent_toNat h ▸ Nat.lt_log2_self

/-- The distance from 2^e is below 2^e (R74). -/
theorem distance_lt_two_pow_exponent {x : Word} (h : x ≠ 0) :
    x.toNat - 2 ^ (exponent x).toNat < 2 ^ (exponent x).toNat := by
  have hlt := lt_two_pow_exponent_succ h
  rw [Nat.pow_succ] at hlt
  omega

/-- The distance shifted by 16 is below 2^47, so 64 bits hold it (R79). -/
theorem scaledDistance_lt {x : Word} (h : x ≠ 0) : (x.toNat - 2 ^ (exponent x).toNat) * 2 ^ 16 < 2 ^ 47 :=
  calc (x.toNat - 2 ^ (exponent x).toNat) * 2 ^ 16
    _ < 2 ^ (exponent x).toNat * 2 ^ 16 :=
      Nat.mul_lt_mul_of_pos_right (distance_lt_two_pow_exponent h) (Nat.two_pow_pos 16)
    _ ≤ 2 ^ 31 * 2 ^ 16 :=
      Nat.mul_le_mul_right _ (Nat.pow_le_pow_right Nat.two_pos (Nat.le_of_lt_succ (exponent x).isLt))
    _ = 2 ^ 47 := (Nat.pow_add 2 31 16).symm

/-- The floored quotient by 2^e is below 2^16 (R79). -/
theorem scaledDistance_div_lt {x : Word} (h : x ≠ 0) :
    (x.toNat - 2 ^ (exponent x).toNat) * 2 ^ 16 / 2 ^ (exponent x).toNat < 2 ^ 16 :=
  Nat.div_lt_of_lt_mul (Nat.mul_lt_mul_of_pos_right (distance_lt_two_pow_exponent h) (Nat.two_pow_pos 16))

/-- The 64-bit steps of R79 give the floored quotient. -/
theorem fraction_toNat {x : Word} (h : x ≠ 0) : (fraction x (exponent x)).toNat =
    (x.toNat - 2 ^ (exponent x).toNat) * 2 ^ 16 / 2 ^ (exponent x).toNat := by
  have hpow : (1#64 <<< (exponent x).toNat).toNat = 2 ^ (exponent x).toNat := by
    rw [← BitVec.twoPow_eq, BitVec.toNat_twoPow_of_lt ((exponent x).isLt.trans (by decide))]
  have hdist : (zext64 x - 1#64 <<< (exponent x).toNat).toNat = x.toNat - 2 ^ (exponent x).toNat := by
    rw [BitVec.toNat_sub_of_le (by rw [BitVec.le_def, hpow, zext64_toNat]; exact two_pow_exponent_le h), hpow,
      zext64_toNat]
  rw [fraction, low32_toNat, BitVec.toNat_ushiftRight, BitVec.toNat_shiftLeft, hdist, Nat.shiftLeft_eq,
    Nat.mod_eq_of_lt ((scaledDistance_lt h).trans (by decide)), Nat.shiftRight_eq_div_pow,
    Nat.mod_eq_of_lt ((scaledDistance_div_lt h).trans (by decide))]

theorem fraction_toNat_lt {x : Word} (h : x ≠ 0) : (fraction x (exponent x)).toNat < 2 ^ 16 :=
  (fraction_toNat h).trans_lt (scaledDistance_div_lt h)

/-- The fraction is 0 where the scaled distance does not reach 2^e (R79). -/
theorem fraction_eq_zero {x : Word} (h : x ≠ 0) (he : 16 ≤ (exponent x).toNat)
    (hd : x.toNat - 2 ^ (exponent x).toNat < 2 ^ ((exponent x).toNat - 16)) : fraction x (exponent x) = 0 := by
  have hscaled : (x.toNat - 2 ^ (exponent x).toNat) * 2 ^ 16 < 2 ^ (exponent x).toNat :=
    calc (x.toNat - 2 ^ (exponent x).toNat) * 2 ^ 16
      _ < 2 ^ ((exponent x).toNat - 16) * 2 ^ 16 := Nat.mul_lt_mul_of_pos_right hd (Nat.two_pow_pos 16)
      _ = 2 ^ (exponent x).toNat := by rw [← Nat.pow_add, Nat.sub_add_cancel he]
  exact BitVec.eq_of_toNat_eq ((fraction_toNat h).trans (Nat.div_eq_of_lt hscaled))

/-- Settles O17: the bounds come from the distance being below 2^e. -/
theorem fractionIsTheScaledDistance : Obligations.FractionIsTheScaledDistance := by
  rintro x hx _ rfl -
  have h : x ≠ 0 := ne_zero_of_toNat_pos (Nat.zero_lt_of_lt hx)
  exact ⟨scaledDistance_lt h, fraction_toNat h, Nat.le_sub_one_of_lt (fraction_toNat_lt h),
    fun he hd => fraction_eq_zero h (Nat.le_of_succ_le he) hd⟩

theorem nextEntry_of_lt (t : Rom) {e : BitVec 5} (h : e.toNat < 31) : nextEntry t e = lutRead t (e + 1) := if_pos h

theorem nextEntry_of_top (t : Rom) {e : BitVec 5} (h : e.toNat = 31) : nextEntry t e = 0 :=
  if_neg (Nat.not_lt.mpr h.ge)

/-- The correction drops no bit: the fraction is below 2^16, so the shifted product is at most delta (R80). -/
theorem correction_toNat (t : Rom) {x : Word} (h : x ≠ 0) : (correction t x).toNat =
    (entryDelta t (exponent x)).toNat * (fraction x (exponent x)).toNat / 2 ^ 16 := by
  have hle : (entryDelta t (exponent x)).toNat * (fraction x (exponent x)).toNat / 2 ^ 16 ≤
      (entryDelta t (exponent x)).toNat :=
    Nat.div_le_of_le_mul ((Nat.mul_le_mul_left _ (fraction_toNat_lt h).le).trans_eq (Nat.mul_comm _ _))
  rw [correction, low32_toNat, product_ushiftRight_toNat, Nat.mod_eq_of_lt (hle.trans_lt (BitVec.isLt _))]

/-- A delta of 1 leaves nothing of the fraction to subtract (R77, R80). -/
theorem correction_eq_zero {t : Rom} {x : Word} (h : x ≠ 0) (hd : entryDelta t (exponent x) = 1) :
    correction t x = 0 := by
  have hdelta : (entryDelta t (exponent x)).toNat = 1 := congrArg BitVec.toNat hd
  apply BitVec.eq_of_toNat_eq
  rw [correction_toNat t h, hdelta, Nat.one_mul]
  exact Nat.div_eq_of_lt (fraction_toNat_lt h)

theorem interpolates_iff (x : Word) : interpolates x = true ↔ 2 ^ (exponent x).toNat < x.toNat := decide_eq_true_iff

theorem estimate_of_interpolates (t : Rom) {x : Word} (h : interpolates x = true) :
    estimate t x = lutRead t (exponent x) - correction t x := if_pos h

/-- Every operand of at least 2^31 lies in the last band of the table (R77). -/
theorem exponent_eq_top {x : Word} (h : 2 ^ 31 ≤ x.toNat) : exponent x = 31 := by
  have hne : x ≠ 0 := ne_zero_of_toNat_pos ((Nat.two_pow_pos 31).trans_le h)
  have hlow : 31 ≤ x.toNat.log2 := (Nat.le_log2 (BitVec.toNat_pos_of_ne_zero hne).ne').mpr h
  exact BitVec.eq_of_toNat_eq
    (Nat.le_antisymm (Nat.le_of_lt_succ (exponent x).isLt) ((exponent_toNat hne).symm ▸ hlow))

/-- Settles O21: the policy is the two branches of `nextEntry`; above 2^31 the exponent is 31, where the default table's
entry and delta are 1. -/
theorem topOfTableStartsFromOne : Obligations.TopOfTableStartsFromOne := by
  refine ⟨fun t e => ⟨nextEntry_of_lt t, nextEntry_of_top t⟩, fun x hx => ?above⟩
  case above =>
    have hne : x ≠ 0 := ne_zero_of_toNat_pos (Nat.zero_lt_of_lt hx)
    have hexp : exponent x = 31 := exponent_eq_top hx.le
    have hdelta : entryDelta defaultTable (exponent x) = 1 := by rw [hexp]; decide
    have hcorr : correction defaultTable x = 0 := correction_eq_zero hne hdelta
    have hruns : interpolates x = true := (interpolates_iff x).mpr (by rw [hexp]; exact hx)
    refine ⟨hdelta, hcorr, ?_⟩
    rw [estimate_of_interpolates _ hruns, hcorr, hexp]
    decide

end Sys2Proof.Machine
end

section
/-! SUPPORT. The handshake at one edge (70_reset_and_hazards.md), settled: each transfer needs its own phase, so the
phase after an edge tells what the next edge can transfer. -/

namespace Sys2Proof.Machine

/-- A request passes exactly when it is offered in IDLE without reset (R15, R30). -/
theorem requestTransfer_iff (s : State) (p : Inputs) :
    s.requestTransfer p = true ↔ p.rst = false ∧ p.reqValid = true ∧ s.phase = .idle := by
  cases hr : p.rst <;> simp [State.requestTransfer, hr]

/-- A response passes exactly when it is taken in DONE without reset (R15, R30). -/
theorem responseTransfer_iff (s : State) (p : Inputs) :
    s.responseTransfer p = true ↔ p.rst = false ∧ s.phase = .done ∧ p.rspReady = true := by
  cases hr : p.rst <;> simp [State.responseTransfer, hr]

theorem reqReady_eq_false_of_phase_ne {s : State} (hp : s.phase ≠ .idle) (rst : Bool) : s.reqReady rst = false :=
  eq_false_of_ne_true fun h => hp ((reqReady_iff s rst).mp h).1

/-- Without reset only a requester that keeps its duty has a step (R109). -/
theorem dutyKept_of_step_next {s t : State} (h : step s = .next t) (hr : s.sampled.rst = false) :
    s.dutyKept s.sampled = true := by
  cases step_cases h with
  | reset hrst => cases hr.symm.trans hrst
  | accept _ hd => exact hd
  | idle _ hd => exact hd
  | wait _ hd => exact hd
  | complete _ _ _ _ hd => exact hd
  | release _ hd => exact hd
  | offer _ hd => exact hd

/-- A request transfer leads to BUSY (R33). -/
theorem step_phase_of_requestTransfer {s t : State} (h : step s = .next t) (hx : s.requestTransfer s.sampled = true) :
    t.phase = .busy := by
  obtain ⟨hr, hv, hp⟩ := (requestTransfer_iff s s.sampled).mp hx
  have hstep := step_idle_of_reqValid (step_next_table_wf h) hr (dutyKept_of_step_next h hr) hp hv
  cases h.symm.trans hstep
  rfl

/-- A response transfer leads to IDLE (R33). -/
theorem step_phase_of_responseTransfer {s t : State} (h : step s = .next t)
    (hx : s.responseTransfer s.sampled = true) : t.phase = .idle := by
  obtain ⟨hr, hp, hy⟩ := (responseTransfer_iff s s.sampled).mp hx
  have hstep := step_done_of_rspReady (step_next_table_wf h) hr (dutyKept_of_step_next h hr) hp hy
  cases h.symm.trans hstep
  rfl

/-- Without reset an edge in BUSY waits there or completes to DONE (R33). -/
theorem step_phase_of_busy {s t : State} (h : step s = .next t) (hr : s.sampled.rst = false) (hp : s.phase = .busy) :
    t.phase = .busy ∨ t.phase = .done := by
  cases step_cases h with
  | reset hrst => cases hr.symm.trans hrst
  | accept _ _ hidle => cases hp.symm.trans hidle
  | idle _ _ hidle => cases hp.symm.trans hidle
  | wait => exact .inl hp
  | complete => exact .inr rfl
  | release _ _ hdone => cases hp.symm.trans hdone
  | offer _ _ hdone => cases hp.symm.trans hdone

/-- A response that is not taken changes nothing but the requester's drives and its standing offer (R33, R111). -/
theorem step_eq_passEdge_of_done {s t : State} (h : step s = .next t) (hr : s.sampled.rst = false)
    (hp : s.phase = .done) (hy : s.sampled.rspReady = false) : t = s.passEdge s.sampled := by
  have hstep := step_done_of_not_rspReady (step_next_table_wf h) hr (dutyKept_of_step_next h hr) hp hy
  exact Host.Outcome.next.inj (h.symm.trans hstep)

/-- Settles O36: an untaken response leaves phase and RSP as they are, and neither a request transfer nor a BUSY edge
leads to IDLE, the one phase with `req_ready`. -/
theorem responseIsHeldStable : Obligations.ResponseIsHeldStable := by
  refine fun s t h hr => ⟨fun hp hy => ?offered, fun hx => ?requested, fun hp => ?computing⟩
  case offered =>
    obtain rfl := step_eq_passEdge_of_done h hr hp hy
    exact ⟨(rspValid_iff _ _).mpr ⟨hp, rfl⟩, rfl, reqReady_eq_false_of_phase_ne (by simp [hp]) _⟩
  case requested =>
    exact reqReady_eq_false_of_phase_ne (by simp [step_phase_of_requestTransfer h hx]) _
  case computing =>
    apply reqReady_eq_false_of_phase_ne
    rcases step_phase_of_busy h hr hp with hbusy | hdone
    · simp [hbusy]
    · simp [hdone]

/-- Settles O40: a request transfer needs IDLE and a response transfer DONE; the first leads to BUSY, the second to IDLE. -/
theorem transactionsAreSpaced : Obligations.TransactionsAreSpaced := by
  refine ⟨?never_both, fun s t h hx => ?accepts_again, fun _ _ => step_phase_of_requestTransfer,
    fun s p hp => ?busy_transfers_nothing⟩
  case never_both =>
    rintro s p ⟨hreq, hrsp⟩
    obtain ⟨-, -, hidle⟩ := (requestTransfer_iff s p).mp hreq
    obtain ⟨-, hdone, -⟩ := (responseTransfer_iff s p).mp hrsp
    cases hidle.symm.trans hdone
  case accepts_again =>
    exact (reqReady_iff t false).mpr ⟨step_phase_of_responseTransfer h hx, rfl⟩
  case busy_transfers_nothing =>
    rw [← Bool.not_eq_true, ← Bool.not_eq_true, requestTransfer_iff, responseTransfer_iff]
    simp [hp]

/-- Settles O33: reset masks both ready and valid, and each transfer needs `rst = 0`. -/
theorem nothingPassesDuringReset : Obligations.NothingPassesDuringReset := by
  refine fun s p => ⟨by simp [State.reqReady], by simp [State.rspValid], fun hr => ?_⟩
  rw [← Bool.not_eq_true, ← Bool.not_eq_true, requestTransfer_iff, responseTransfer_iff]
  simp [hr]

end Sys2Proof.Machine
end

section
/-! SUPPORT. The encoding (30_encoding.md), settled: a bundle is its request and back, so the decoder is the inverse of the
encoder, and the operation field of a number is its quotient by 2^64. -/

namespace Sys2Proof

/-- A bundle is made of the three fields its request holds (R50). -/
@[simp] theorem bundleOfRequest_requestOfBundle (w : Bundle) : bundleOfRequest (requestOfBundle w) = w := by
  apply BitVec.eq_of_getLsbD_eq
  intro i hi
  simp only [bundleOfRequest, requestOfBundle, getLsbD_bundle, bundleOp, bundleA, bundleB, BitVec.getLsbD_extractLsb']
  split
  · simp [*]
  · split
    · simp [show i - 32 < 32 by omega, show 32 + (i - 32) = i by omega]
    · simp [show i - 64 < 2 by omega, show 64 + (i - 64) = i by omega]

/-- The request an instruction is encoded from (R52). -/
def Instr.request : Instr → Request
  | .mul32 a b => ⟨0#2, a, b⟩
  | .clz a b => ⟨1#2, a, b⟩
  | .rsqrt a b => ⟨2#2, a, b⟩

theorem encode_eq_bundleOfRequest (i : Instr) : encode i = bundleOfRequest i.request := by
  cases i <;> rfl

@[simp] theorem decodeRequest_request (i : Instr) : decodeRequest i.request = .ok i := by
  cases i <;> rfl

/-- The decoder loses nothing of a request it takes: op and operands are those of the instruction (R52, R54). -/
theorem request_of_decodeRequest {r : Request} {i : Instr} (h : decodeRequest r = .ok i) : i.request = r := by
  obtain ⟨op, a, b⟩ := r
  match op with
  | 0#2 => cases h; rfl
  | 1#2 => cases h; rfl
  | 2#2 => cases h; rfl
  | 3#2 => cases h

theorem decode_encode (i : Instr) : decode (encode i) = .ok i := by
  rw [encode_eq_bundleOfRequest, decode, requestOfBundle_bundleOfRequest, decodeRequest_request]

theorem encode_of_decode {w : Bundle} {i : Instr} (h : decode w = .ok i) : encode i = w := by
  rw [encode_eq_bundleOfRequest, request_of_decodeRequest h, bundleOfRequest_requestOfBundle]

/-- Settles O1: each direction is one of the two round trips. -/
theorem decodeInvertsEncode : Obligations.DecodeInvertsEncode :=
  fun _ i => ⟨encode_of_decode, fun h => h ▸ decode_encode i⟩

/-- The operation field is the quotient of the bundle by 2^64 (R50). -/
theorem bundleOp_toNat (w : Bundle) : (bundleOp w).toNat = w.toNat / 2 ^ 64 := by
  have hlt : w.toNat < 2 ^ 66 := w.isLt
  rw [bundleOp, BitVec.extractLsb'_toNat, Nat.shiftRight_eq_div_pow]
  omega

theorem bundleOp_eq_reserved_iff (w : Bundle) : bundleOp w = 3#2 ↔ 3 * 2 ^ 64 ≤ w.toNat := by
  have hlt : w.toNat < 2 ^ 66 := w.isLt
  rw [← BitVec.toNat_inj, bundleOp_toNat, BitVec.toNat_ofNat]
  omega

theorem decode_of_reserved {w : Bundle} (h : bundleOp w = 3#2) : decode w = .error .reservedOp := by
  simp [decode, decodeRequest, requestOfBundle, h]

theorem exists_decode_of_not_reserved {w : Bundle} (h : bundleOp w ≠ 3#2) : ∃ i, decode w = .ok i :=
  Machine.exists_decodeRequest_of_op_ne (r := requestOfBundle w) h

theorem decodeNumber_of_lt {n : Nat} (h : n < 2 ^ 66) : decodeNumber n = decode (BitVec.ofNat 66 n) := if_pos h

theorem bundle_toNat_of_lt {n : Nat} (h : n < 2 ^ 66) : (BitVec.ofNat 66 n).toNat = n :=
  (BitVec.toNat_ofNat n 66).trans (Nat.mod_eq_of_lt h)

/-- Settles O3: below 2^66 the number is the value of its bundle, whose operation field is reserved from 3 * 2^64 on. -/
theorem numbersDecodeOrAreRejectedByName : Obligations.NumbersDecodeOrAreRejectedByName := by
  refine fun n => ⟨fun hn => ?instruction, fun hn hlt => ?reserved, fun hn => ?no_bundle⟩
  case instruction =>
    have hlt : n < 2 ^ 66 := by omega
    have hval := bundle_toNat_of_lt hlt
    have hop : bundleOp (BitVec.ofNat 66 n) ≠ 3#2 := fun h =>
      Nat.not_le.mpr hn (hval ▸ (bundleOp_eq_reserved_iff _).mp h)
    obtain ⟨i, hi⟩ := exists_decode_of_not_reserved hop
    exact ⟨i, (decodeNumber_of_lt hlt).trans hi, by rw [encode_of_decode hi, hval]⟩
  case reserved =>
    rw [decodeNumber_of_lt hlt]
    exact decode_of_reserved ((bundleOp_eq_reserved_iff _).mpr ((bundle_toNat_of_lt hlt).symm ▸ hn))
  case no_bundle => exact if_neg (Nat.not_lt.mpr hn)

/-- Settles O4: each bundle is the encoding of the instruction the spec gives for it; the last has the reserved op. -/
theorem specBundlesDecode : Obligations.SpecBundlesDecode := by
  refine ⟨?_, ?_, ?_, ?_, decode_of_reserved (by decide)⟩
  · exact decode_encode (.mul32 0x12345678 0x9ABCDEF0)
  · exact decode_encode (.clz 0x12345 0)
  · exact decode_encode (.clz 0 0xDEADBEEF)
  · exact decode_encode (.rsqrt 100 0)

end Sys2Proof

namespace Sys2Proof.Machine

theorem exec_mul32 (a b : Word) (s : State) : exec (.mul32 a b) s = .next (s.complete (product a b)) := rfl

/-- Settles O2: the decoder's four branches by the operation field, and the completion of each instruction. -/
theorem decoderIsTotalByOp : Obligations.DecoderIsTotalByOp := by
  refine fun w s => ⟨fun hop => ⟨?mul32, exec_mul32 _ _ s⟩, fun hop => ⟨?clz, exec_clz _ _ s⟩,
    fun hop => ⟨?rsqrt, exec_rsqrt _ _ s⟩,
    fun hop => ⟨decode_of_reserved hop, (responseValue_eq_none_iff s.table (requestOfBundle w)).mpr hop⟩⟩
  case mul32 => simp [decode, decodeRequest, requestOfBundle, hop]
  case clz => simp [decode, decodeRequest, requestOfBundle, hop]
  case rsqrt => simp [decode, decodeRequest, requestOfBundle, hop]

/-- A decoded request at a completing edge runs on the state whose requester's drives have passed (R33). -/
theorem step_busy_of_decodeRequest {s : State} {r : Request} {i : Instr} (hw : s.table.wf = true)
    (hr : s.sampled.rst = false) (hd : s.dutyKept s.sampled = true) (hp : s.phase = .busy) (hf : s.fin = true)
    (hq : s.req = some r) (hi : decodeRequest r = .ok i) : step s = exec i (s.passEdge s.sampled) := by
  rw [step_busy_of_fin hw hr hd hp hf, completion, State.passEdge_req, hq]
  simp only [hi]

theorem decode_bundleOfRequest (r : Request) : decode (bundleOfRequest r) = decodeRequest r := by
  rw [decode, requestOfBundle_bundleOfRequest]

/-- Settles O29: the completing edge runs what REQ decodes to. -/
theorem stepRunsTheDecodedInstruction : Obligations.StepRunsTheDecodedInstruction := by
  intro s r i hw hr hd hp hleft hq hi _
  exact step_busy_of_decodeRequest hw hr hd hp ((fin_iff s).mpr hleft) hq ((decode_bundleOfRequest r).symm.trans hi)

/-- A table word that decodes is a bundle, which decodes to the same instruction. -/
theorem decode_of_decodeTableWord {nbits w : Nat} {i : Instr} (h : decodeTableWord nbits w = some i) :
    decode (BitVec.ofNat 66 (w % 2 ^ nbits)) = .ok i := by
  unfold decodeTableWord at h
  split at h
  · next j hj =>
    cases h
    unfold decodeNumber at hj
    split at hj
    · exact hj
    · cases hj
  · cases h

/-- Outside IDLE the quiet requester's offer stands over as it is (Log 2, R109). -/
theorem offerAfter_quietInputs {s : State} (hp : s.phase ≠ .idle) : s.offerAfter (quietInputs s.held) = s.held := by
  cases h : s.held <;> simp [State.offerAfter, quietInputs, Inputs.request, hp]

theorem placeRequest_sampled (s : State) (r : Request) : (s.placeRequest r).sampled = quietInputs s.held := rfl

/-- The edge after a placing takes off the drives that the placing added, and the offer stands over (Log 13). -/
theorem placeRequest_passEdge (s : State) (r : Request) :
    (s.placeRequest r).passEdge (s.placeRequest r).sampled =
      { s with phase := .busy, req := some r, rsp := none, busyLeft := 1 } := by
  have hheld : (s.placeRequest r).offerAfter (quietInputs s.held) = s.held :=
    offerAfter_quietInputs (s := s.placeRequest r) nofun
  rw [placeRequest_sampled, State.passEdge, hheld]
  rfl

/-- Settles O30: the placed request is that of the bundle, and the next edge completes it. -/
theorem placedInstructionRunsNext : Obligations.PlacedInstructionRunsNext := by
  intro s nbits w i hw hdec
  have hi : decodeRequest (requestOfBundle (BitVec.ofNat 66 (w % 2 ^ nbits))) = .ok i := decode_of_decodeTableWord hdec
  refine ⟨requestOfBundle (BitVec.ofNat 66 (w % 2 ^ nbits)), (decode_bundleOfRequest _).trans hi, ?_⟩
  rw [State.withFetchWord, ← placeRequest_passEdge]
  exact step_busy_of_decodeRequest hw (quietInputs_rst s.held) (quietInputs_dutyKept (s.placeRequest _)) rfl rfl rfl hi

end Sys2Proof.Machine
end

section
/-! SUPPORT. What every step keeps or gives (10_state.md sections 3 and 6, 70_reset_and_hazards.md sections 3 and 4),
settled: the invariant, the table, the standing offer, RSP, and which refusals there are. -/

namespace Sys2Proof.Machine

/-- Settles O41: the reset state is IDLE with both registers empty, the default table and a count of 0. -/
theorem resetMeetsTheInvariant : Obligations.ResetMeetsTheInvariant where
  reqInBusy := rfl
  rspInDone := rfl
  tableWf := show defaultTable.wf = true by decide
  leftInBusy := nofun
  leftOutside := fun _ => rfl

/-- No step writes the table (R20). -/
theorem step_table {s t : State} (h : step s = .next t) : t.table = s.table := by
  cases step_cases h <;> rfl

/-- The invariant speaks of the unit alone, and the requester's drives and offer are none of its fields. -/
theorem Inv.passEdge {s : State} (h : Inv s) (p : Inputs) : Inv (s.passEdge p) :=
  { reqInBusy := h.reqInBusy, rspInDone := h.rspInDone, tableWf := h.tableWf, leftInBusy := h.leftInBusy
    leftOutside := h.leftOutside }

theorem Inv.consumeEdge {s : State} (h : Inv s) : Inv s.consumeEdge :=
  { reqInBusy := h.reqInBusy, rspInDone := h.rspInDone, tableWf := h.tableWf, leftInBusy := h.leftInBusy
    leftOutside := h.leftOutside }

theorem Inv.req_eq_none {s : State} (h : Inv s) (hp : s.phase ≠ .busy) : s.req = none :=
  Option.not_isSome_iff_eq_none.mp (by simp [h.reqInBusy, hp])

theorem Inv.rsp_eq_none {s : State} (h : Inv s) (hp : s.phase ≠ .done) : s.rsp = none :=
  Option.not_isSome_iff_eq_none.mp (by simp [h.rspInDone, hp])

theorem Inv.exists_req {s : State} (h : Inv s) (hp : s.phase = .busy) : ∃ r, s.req = some r :=
  Option.isSome_iff_exists.mp (by simp [h.reqInBusy, hp])

theorem Inv.takeReset {s : State} (h : Inv s) : Inv s.takeReset where
  reqInBusy := rfl
  rspInDone := rfl
  tableWf := h.tableWf
  leftInBusy := nofun
  leftOutside := fun _ => rfl

theorem Inv.acceptRequest {s : State} (h : Inv s) (hp : s.phase = .idle) (r : Request) : Inv (s.acceptRequest r) where
  reqInBusy := rfl
  rspInDone := by rw [State.acceptRequest_rsp, h.rsp_eq_none (by simp [hp])]; rfl
  tableWf := h.tableWf
  leftInBusy := fun _ => ⟨latency_pos _ _, latency_le _ _⟩
  leftOutside := fun hne => absurd rfl hne

/-- A wait takes one off the count, which was above 1 (R34). -/
theorem Inv.wait {s : State} (h : Inv s) (hp : s.phase = .busy) (hf : s.fin = false) : Inv s.wait where
  reqInBusy := h.reqInBusy
  rspInDone := h.rspInDone
  tableWf := h.tableWf
  leftInBusy := fun _ => by
    have hleft : ¬ s.busyLeft ≤ 1 := by simp [← fin_iff, hf]
    have hmax := (h.leftInBusy hp).2
    rw [State.wait_busyLeft]
    omega
  leftOutside := fun hne => absurd hp hne

theorem Inv.complete {s : State} (h : Inv s) (v : DWord) : Inv (s.complete v) where
  reqInBusy := rfl
  rspInDone := rfl
  tableWf := h.tableWf
  leftInBusy := nofun
  leftOutside := fun _ => rfl

theorem Inv.releaseResponse {s : State} (h : Inv s) (hp : s.phase = .done) : Inv s.releaseResponse where
  reqInBusy := by rw [State.releaseResponse_req, h.req_eq_none (by simp [hp])]; rfl
  rspInDone := rfl
  tableWf := h.tableWf
  leftInBusy := nofun
  leftOutside := fun _ => h.leftOutside (by simp [hp])

/-- Settles O42: the edge passes for the requester, and then each block of the edge table keeps the invariant. -/
theorem stepKeepsTheInvariant : Obligations.StepKeepsTheInvariant := by
  intro s t hinv h
  have hpass : Inv (s.passEdge s.sampled) := hinv.passEdge s.sampled
  cases step_cases h with
  | reset => exact hinv.consumeEdge.takeReset
  | accept _ _ hp => exact hpass.acceptRequest hp _
  | idle => exact hpass
  | wait _ _ hp hf => exact hpass.wait hp hf
  | complete _ _ v => exact hpass.complete v
  | release _ _ hp => exact hpass.releaseResponse hp
  | offer => exact hpass

/-- Settles O28: by induction on the edges, each of which keeps the table. -/
theorem tableIsNeverWritten : Obligations.TableIsNeverWritten := by
  intro k
  induction k with
  | zero => intro s t h; cases h; rfl
  | succ k ih =>
    intro s t h
    obtain ⟨u, hu, ht⟩ := runFor_succ_next h
    exact (ih u t ht).trans (step_table hu)

/-- Settles O37: a BUSY edge without reset waits or completes, and either writes fields of the unit only, from fields of
the unit only. -/
theorem operandsAreCaptured : Obligations.OperandsAreCaptured := by
  intro s t ins h hp hr hr' hd' hstep
  have hw := step_next_table_wf hstep
  cases step_cases hstep with
  | reset hrst => cases hr.symm.trans hrst
  | accept _ _ hidle => cases hp.symm.trans hidle
  | idle _ _ hidle => cases hp.symm.trans hidle
  | wait _ _ _ hf => exact ⟨_, step_busy_of_not_fin hw hr' hd' hp hf⟩
  | complete r i v _ _ _ hf hq =>
    have hv : responseValue s.table r = some v := (step_busy_done_rsp hp hq hstep rfl).symm
    exact ⟨_, step_busy_of_responseValue (s := { s with inputs := ins, held := h }) hw hr' hd' hp hf hq hv⟩
  | release _ _ hdone => cases hp.symm.trans hdone
  | offer _ _ hdone => cases hp.symm.trans hdone

theorem responseTransfer_eq_false_of_phase_ne {s : State} (hp : s.phase ≠ .done) (p : Inputs) :
    s.responseTransfer p = false :=
  eq_false_of_ne_true fun h => hp ((responseTransfer_iff s p).mp h).2.1

/-- Settles O43: at a completing edge the unit goes to DONE, so RSP is EXEC of the request; of the other edges only the
reset and the response transfer clear RSP. -/
theorem rspIsAlwaysAnExecValue : Obligations.RspIsAlwaysAnExecValue := by
  refine fun s t h => ⟨fun hr hp hf => ?completing, fun hnot => ?other⟩
  case completing =>
    cases step_cases h with
    | reset hrst => cases hr.symm.trans hrst
    | accept _ _ hidle => cases hp.symm.trans hidle
    | idle _ _ hidle => cases hp.symm.trans hidle
    | wait _ _ _ hwait => cases hf.symm.trans hwait
    | complete r i v _ _ _ _ hq => exact ⟨r, v, hq, (step_busy_done_rsp hp hq h rfl).symm, rfl, rfl⟩
    | release _ _ hdone => cases hp.symm.trans hdone
    | offer _ _ hdone => cases hp.symm.trans hdone
  case other =>
    cases step_cases h with
    | reset hr => simp [hr]
    | accept hr _ hp => simp [hr, responseTransfer_eq_false_of_phase_ne (s := s) (by simp [hp])]
    | idle hr _ hp => simp [hr, responseTransfer_eq_false_of_phase_ne (s := s) (by simp [hp])]
    | wait hr _ hp => simp [hr, responseTransfer_eq_false_of_phase_ne (s := s) (by simp [hp])]
    | complete _ _ _ hr _ hp hf => exact absurd ⟨hr, hp, hf⟩ hnot
    | release hr _ hp hy => simp [(responseTransfer_iff s s.sampled).mpr ⟨hr, hp, hy⟩]
    | offer hr _ _ hy => simp [hr, State.responseTransfer, hy]

/-- A requester breaks its duty by taking its offer back or by changing it (R109). -/
theorem dutyKept_eq_false_iff (s : State) (p : Inputs) :
    s.dutyKept p = false ↔ ∃ r, s.held = some r ∧ (p.reqValid = false ∨ p.request ≠ r) := by
  cases h : s.held <;> simp [State.dutyKept, h, imp_iff_not_or]

theorem step_of_not_dutyKept {s : State} (hw : s.table.wf = true) (hr : s.sampled.rst = false)
    (hd : s.dutyKept s.sampled = false) : step s = .refused .requestChanged := by
  rw [step, edge, if_pos hw, if_neg (by simp [hr]), if_neg (by simp [hd])]

/-- Without reset the offer of the edge stands over, or there is none (R109). -/
theorem step_held {s t : State} (h : step s = .next t) (hr : s.sampled.rst = false) :
    t.held = s.offerAfter s.sampled := by
  cases step_cases h with
  | reset hrst => cases hr.symm.trans hrst
  | accept => rfl
  | idle => rfl
  | wait => rfl
  | complete => rfl
  | release => rfl
  | offer => rfl

theorem offerAfter_of_idle {s : State} (hp : s.phase = .idle) (p : Inputs) : s.offerAfter p = none := by
  simp [State.offerAfter, hp]

/-- Settles O39: a broken duty is refused; otherwise the standing offer after the edge is `offerAfter`, and the request
that a transfer moves is the one the duty holds in place. -/
theorem offeredRequestMustStand : Obligations.OfferedRequestMustStand := by
  refine ⟨fun s r hw hheld hr hbroken => ?broken, fun s t h => ⟨fun hr => ?reset, fun hr hv hready => ?stands,
    fun hr hx => ?moved⟩⟩
  case broken =>
    exact step_of_not_dutyKept hw hr
      (eq_false_of_ne_true fun hd => hbroken ((dutyKept_iff s s.sampled).mp hd r hheld))
  case reset =>
    cases h.symm.trans (step_of_rst (step_next_table_wf h) hr)
    rfl
  case stands =>
    have hp : s.phase ≠ .idle := by simpa [State.reqReady] using hready
    exact (step_held h hr).trans ((offerAfter_eq_some_iff s _ _).mpr ⟨hv, hp, rfl⟩)
  case moved =>
    obtain ⟨-, hv, hp⟩ := (requestTransfer_iff s s.sampled).mp hx
    have hd := dutyKept_of_step_next h hr
    refine ⟨(step_held h hr).trans (offerAfter_of_idle hp _), fun r hheld => ?_⟩
    cases h.symm.trans (step_idle_of_reqValid (step_next_table_wf h) hr hd hp hv)
    exact congrArg some ((dutyKept_iff s s.sampled).mp hd r hheld).2

/-- A completing edge of a request that is not reserved has a next state (R33, R53). -/
theorem exists_step_of_not_reserved {s : State} {r : Request} (hw : s.table.wf = true) (hr : s.sampled.rst = false)
    (hd : s.dutyKept s.sampled = true) (hp : s.phase = .busy) (hf : s.fin = true) (hq : s.req = some r)
    (hop : r.op ≠ 3#2) : ∃ t, step s = .next t := by
  obtain ⟨i, hi⟩ := exists_decodeRequest_of_op_ne hop
  obtain ⟨v, hv⟩ := exec_is_completion i (s.passEdge s.sampled)
  exact ⟨_, (step_busy_of_decodeRequest hw hr hd hp hf hq hi).trans hv⟩

/-- The outcomes of a step under the invariant: a next state, or one of two refusals with its cause (R56, R109). -/
inductive OutcomeCase (s : State) : Host.Outcome State Fault Refusal → Prop where
  | next (t : State) : OutcomeCase s (.next t)
  | reserved (r : Request) (hp : s.phase = .busy) (hq : s.req = some r) (hop : r.op = 3#2) :
      OutcomeCase s (.refused .reservedOp)
  | changed (hr : s.sampled.rst = false) (hd : s.dutyKept s.sampled = false) :
      OutcomeCase s (.refused .requestChanged)

theorem OutcomeCase.of_next {s : State} {o : Host.Outcome State Fault Refusal} (h : ∃ t, o = .next t) :
    OutcomeCase s o := by
  obtain ⟨t, rfl⟩ := h
  exact .next t

/-- Under the invariant every step has one of these outcomes. -/
theorem outcomeCase_of_inv {s : State} (hinv : Inv s) : OutcomeCase s (step s) := by
  have hw := hinv.tableWf
  cases hr : s.sampled.rst with
  | true => exact .of_next ⟨_, step_of_rst hw hr⟩
  | false =>
    cases hd : s.dutyKept s.sampled with
    | false => exact step_of_not_dutyKept hw hr hd ▸ .changed hr hd
    | true =>
      cases hp : s.phase with
      | idle =>
        cases hv : s.sampled.reqValid with
        | true => exact .of_next ⟨_, step_idle_of_reqValid hw hr hd hp hv⟩
        | false => exact .of_next ⟨_, step_idle_of_not_reqValid hw hr hd hp hv⟩
      | busy =>
        obtain ⟨r, hq⟩ := hinv.exists_req hp
        cases hf : s.fin with
        | false => exact .of_next ⟨_, step_busy_of_not_fin hw hr hd hp hf⟩
        | true =>
          by_cases hop : r.op = 3#2
          · exact step_busy_of_reserved hw hr hd hp hf hq hop ▸ .reserved r hp hq hop
          · exact .of_next (exists_step_of_not_reserved hw hr hd hp hf hq hop)
      | done =>
        cases hy : s.sampled.rspReady with
        | true => exact .of_next ⟨_, step_done_of_rspReady hw hr hd hp hy⟩
        | false => exact .of_next ⟨_, step_done_of_not_rspReady hw hr hd hp hy⟩

/-- Settles O44: none of the outcomes is a fault, and each refusal comes with its cause. -/
theorem noFaultAndOnlyNamedRefusals : Obligations.NoFaultAndOnlyNamedRefusals := by
  intro s hinv
  have hcase := outcomeCase_of_inv hinv
  refine ⟨fun f hf => ?no_fault, fun q hq => ?refusal⟩
  case no_fault =>
    rw [hf] at hcase
    cases hcase
  case refusal =>
    rw [hq] at hcase
    cases hcase with
    | reserved r hp hr hop => exact .inl ⟨rfl, hp, r, hr, hop⟩
    | changed hr hd => exact .inr ⟨rfl, hr, (dutyKept_eq_false_iff s s.sampled).mp hd⟩

end Sys2Proof.Machine
end

section
/-! SUPPORT. Runs (10_state.md section 6, 70_reset_and_hazards.md section 6), settled: a transaction's edges in BUSY are
counted by the model's count, and the requests of a run are its responses and at most one that is still pending. -/

namespace Sys2Proof.Machine

/-- From BUSY to BUSY the count goes down by one and stays positive (R34). -/
theorem step_busyLeft_of_busy {s t : State} (h : step s = .next t) (hp : s.phase = .busy) (ht : t.phase = .busy) :
    t.busyLeft + 1 = s.busyLeft ∧ 1 ≤ t.busyLeft := by
  cases step_cases h with
  | reset => cases ht
  | accept _ _ hidle => cases hp.symm.trans hidle
  | idle _ _ hidle => cases hp.symm.trans hidle
  | wait _ _ _ hf =>
    have hleft : ¬ s.busyLeft ≤ 1 := by simp [← fin_iff, hf]
    rw [State.wait_busyLeft, State.passEdge_busyLeft]
    omega
  | complete => cases ht
  | release => cases ht
  | offer _ _ hdone => cases hp.symm.trans hdone

/-- A run that is in BUSY before each of the edges 0 to k spends its count there. -/
theorem lt_busyLeft_of_busy (k : Nat) {s : State} (hpos : 1 ≤ s.busyLeft)
    (h : ∀ j, j ≤ k → ∃ u, runFor j s = .next u ∧ u.phase = .busy) : k < s.busyLeft := by
  induction k generalizing s with
  | zero => exact hpos
  | succ k ih =>
    obtain ⟨_, h0, hp⟩ := h 0 (Nat.zero_le _)
    cases h0
    obtain ⟨u, h1, hu⟩ := h 1 (Nat.succ_le_succ (Nat.zero_le k))
    obtain ⟨_, hstep, h1⟩ := runFor_succ_next h1
    cases h1
    obtain ⟨hleft, hleft_pos⟩ := step_busyLeft_of_busy hstep hp hu
    have hlt : k < u.busyLeft := ih hleft_pos fun j hj => runFor_succ j hstep ▸ h (j + 1) (Nat.succ_le_succ hj)
    omega

/-- Settles O45: the edges in BUSY are at most the count, which the invariant bounds by `LAT_MAX`. -/
theorem busyEndsWithinLatMax : Obligations.BusyEndsWithinLatMax := by
  intro s k hinv h
  obtain ⟨_, h0, hp⟩ := h 0 (Nat.zero_le _)
  cases h0
  obtain ⟨hpos, hmax⟩ := hinv.leftInBusy hp
  exact (lt_busyLeft_of_busy k hpos h).trans_le hmax

theorem runFor_add {k : Nat} {s t : State} (m : Nat) (h : runFor k s = .next t) : runFor (k + m) s = runFor m t := by
  induction k generalizing s with
  | zero => cases h; rw [Nat.zero_add]
  | succ k ih =>
    obtain ⟨u, hu, ht⟩ := runFor_succ_next h
    rw [Nat.succ_add, runFor_succ _ hu, ih ht]

theorem events_succ {s u : State} (k : Nat) (h : step s = .next u) : events (k + 1) s = s.event :: events k u := by
  simp only [events, h]

theorem events_add {k : Nat} {s t : State} (m : Nat) (h : runFor k s = .next t) :
    events (k + m) s = events k s ++ events m t := by
  induction k generalizing s with
  | zero => cases h; rw [Nat.zero_add]; rfl
  | succ k ih =>
    obtain ⟨u, hu, ht⟩ := runFor_succ_next h
    rw [Nat.succ_add, events_succ _ hu, events_succ _ hu, ih ht, List.cons_append]

theorem RequesterKeeps.first {n : Nat} {s : State} (h : RequesterKeeps (n + 1) s) :
    s.sampled.rst = false ∧ s.dutyKept s.sampled = true := h 0 s (Nat.succ_pos n) rfl

theorem RequesterKeeps.after {k n : Nat} {s t : State} (h : RequesterKeeps (k + n) s) (hrun : runFor k s = .next t) :
    RequesterKeeps n t :=
  fun j u hj hu => h (k + j) u (Nat.add_lt_add_left hj k) ((runFor_add j hrun).trans hu)

theorem RequesterKeeps.mono {m n : Nat} {s : State} (h : RequesterKeeps n s) (hmn : m ≤ n) : RequesterKeeps m s :=
  fun j u hj => h j u (hj.trans_le hmn)

theorem runFor_one {s t : State} (h : step s = .next t) : runFor 1 s = .next t := runFor_succ 0 h

/-! The event of an edge under each guard (R15). -/

theorem event_of_reset {s : State} (hr : s.sampled.rst = true) : s.event = .reset := if_pos hr

theorem event_of_request {s : State} (hr : s.sampled.rst = false) (hv : s.sampled.reqValid = true)
    (hp : s.phase = .idle) : s.event = .request s.sampled.request := by
  rw [State.event, if_neg (by simp [hr]), if_pos ((requestTransfer_iff s _).mpr ⟨hr, hv, hp⟩)]

theorem event_of_response {s : State} (hr : s.sampled.rst = false) (hp : s.phase = .done)
    (hy : s.sampled.rspReady = true) : s.event = .response s.rsp := by
  rw [State.event, if_neg (by simp [hr]), if_neg (by simp [requestTransfer_iff, hp]),
    if_pos ((responseTransfer_iff s _).mpr ⟨hr, hp, hy⟩), rspData_done s hp]

theorem event_of_no_transfer {s : State} (hr : s.sampled.rst = false) (hreq : ¬ s.requestTransfer s.sampled = true)
    (hrsp : ¬ s.responseTransfer s.sampled = true) : s.event = .quiet := by
  rw [State.event, if_neg (by simp [hr]), if_neg hreq, if_neg hrsp]

theorem event_of_busy {s : State} (hr : s.sampled.rst = false) (hp : s.phase = .busy) : s.event = .quiet :=
  event_of_no_transfer hr (by simp [requestTransfer_iff, hp]) (by simp [responseTransfer_iff, hp])

/-! One transaction, from its edges in BUSY to its response. -/

/-- The unit is in BUSY with a request whose EXEC is `v`, and `n` edges to go there. -/
structure Computing (s : State) (v : DWord) (n : Nat) : Prop where
  tableWf : s.table.wf = true
  phase   : s.phase = .busy
  request : ∃ r, s.req = some r ∧ responseValue s.table r = some v
  left    : s.busyLeft = n

/-- With more than one edge to go, an edge waits (R34). -/
theorem Computing.step_wait {s : State} {v : DWord} {n : Nat} (h : Computing s v (n + 2))
    (hr : s.sampled.rst = false) (hd : s.dutyKept s.sampled = true) :
    ∃ u, step s = .next u ∧ Computing u v (n + 1) := by
  have hf : s.fin = false := by simp [State.fin, h.left]
  refine ⟨_, step_busy_of_not_fin h.tableWf hr hd h.phase hf, h.tableWf, h.phase, h.request, ?_⟩
  rw [State.wait_busyLeft, State.passEdge_busyLeft, h.left]
  rfl

/-- The last edge in BUSY leads to DONE with EXEC of the request in RSP (R33). -/
theorem Computing.step_complete {s : State} {v : DWord} (h : Computing s v 1)
    (hr : s.sampled.rst = false) (hd : s.dutyKept s.sampled = true) :
    ∃ t, step s = .next t ∧ t.table = s.table ∧ t.phase = .done ∧ t.rsp = some v := by
  obtain ⟨r, hq, hv⟩ := h.request
  have hf : s.fin = true := (fin_iff s).mpr h.left.le
  exact ⟨_, step_busy_of_responseValue h.tableWf hr hd h.phase hf hq hv, rfl, rfl, rfl⟩

/-- The edges in BUSY are as many as the count says, nothing passes at them, and they end in DONE with EXEC in RSP. -/
theorem Computing.runFor_complete {n : Nat} {s : State} {v : DWord} (h : Computing s v (n + 1))
    (hkeeps : RequesterKeeps (n + 1) s) :
    (∀ j, j < n + 1 → ∃ u, runFor j s = .next u ∧ u.phase = .busy) ∧
    events (n + 1) s = List.replicate (n + 1) .quiet ∧
    ∃ t, runFor (n + 1) s = .next t ∧ t.table = s.table ∧ t.phase = .done ∧ t.rsp = some v := by
  induction n generalizing s with
  | zero =>
    obtain ⟨hr, hd⟩ := hkeeps.first
    obtain ⟨t, hstep, ht⟩ := h.step_complete hr hd
    refine ⟨fun j hj => ?_, ?_, t, runFor_one hstep, ht⟩
    · obtain rfl : j = 0 := Nat.lt_one_iff.mp hj
      exact ⟨s, rfl, h.phase⟩
    · rw [events_succ 0 hstep, event_of_busy hr h.phase]
      rfl
  | succ n ih =>
    obtain ⟨hr, hd⟩ := hkeeps.first
    obtain ⟨u, hstep, hu⟩ := h.step_wait hr hd
    have hkeeps_u : RequesterKeeps (n + 1) u :=
      RequesterKeeps.after (k := 1) (hkeeps.mono (by omega)) (runFor_one hstep)
    obtain ⟨hbusy, hevents, t, ht, htable, hdone⟩ := ih hu hkeeps_u
    refine ⟨fun j hj => ?_, ?_, t, (runFor_succ _ hstep).trans ht, htable.trans (step_table hstep), hdone⟩
    · cases j with
      | zero => exact ⟨s, rfl, h.phase⟩
      | succ j =>
        rw [runFor_succ j hstep]
        exact hbusy j (Nat.lt_of_succ_lt_succ hj)
    · rw [events_succ _ hstep, event_of_busy hr h.phase, hevents]
      rfl

/-- Settles O46: a state of the invariant in BUSY is computing, with its count in [1, `LAT_MAX`]. -/
theorem transactionCompletes : Obligations.TransactionCompletes := by
  intro s r v hinv hp hq hv hkeeps
  obtain ⟨hpos, hmax⟩ := hinv.leftInBusy hp
  obtain ⟨n, hn⟩ : ∃ n, s.busyLeft = n + 1 := ⟨s.busyLeft - 1, by omega⟩
  have hcomp : Computing s v (n + 1) := ⟨hinv.tableWf, hp, ⟨r, hq, hv⟩, hn⟩
  obtain ⟨hbusy, -, t, ht, -, hdone⟩ := hcomp.runFor_complete (hn ▸ hkeeps)
  exact ⟨hpos, hmax, hn ▸ hbusy, t, hn ▸ ht, hdone⟩

/-- The edge of a request transfer draws the latency and leads to a unit that computes its EXEC (R33, R34). -/
theorem step_computing_of_request {s : State} {v : DWord} (hinv : Inv s) (hp : s.phase = .idle)
    (hr : s.sampled.rst = false) (hd : s.dutyKept s.sampled = true) (hv : s.sampled.reqValid = true)
    (hexec : responseValue s.table s.sampled.request = some v) :
    ∃ u, step s = .next u ∧ Computing u v (latency s.draws s.sampled.request) :=
  ⟨_, step_idle_of_reqValid hinv.tableWf hr hd hp hv, hinv.tableWf, rfl, ⟨_, rfl, hexec⟩, rfl⟩

/-- Settles O47: the request's edge, then the edges in BUSY, then the edge at which the response is taken. -/
theorem requestIsAnsweredByExec : Obligations.RequestIsAnsweredByExec := by
  rintro s v _ hinv hp hv hexec rfl hkeeps hready
  obtain ⟨hr, hd⟩ := hkeeps.first
  obtain ⟨u, hstep, hcomp⟩ := step_computing_of_request hinv hp hr hd hv hexec
  have hpos := latency_pos s.draws s.sampled.request
  refine ⟨hpos, latency_le _ _, ?_⟩
  obtain ⟨n, hn⟩ : ∃ n, latency s.draws s.sampled.request = n + 1 := ⟨_, (Nat.sub_add_cancel hpos).symm⟩
  rw [hn] at hkeeps hready hcomp ⊢
  have hkeeps_u : RequesterKeeps (n + 1 + 1) u :=
    RequesterKeeps.after (k := 1) (hkeeps.mono (by omega)) (runFor_one hstep)
  obtain ⟨-, hquiet, t, ht, htable, hdone, hrsp⟩ := hcomp.runFor_complete (hkeeps_u.mono (Nat.le_succ _))
  obtain ⟨hr_t, hd_t⟩ := (RequesterKeeps.after (n := 1) hkeeps_u ht).first
  have hy : t.sampled.rspReady = true := hready t ((runFor_succ _ hstep).trans ht)
  have hrelease := step_done_of_rspReady (htable ▸ hcomp.tableWf) hr_t hd_t hdone hy
  rw [events_succ _ hstep, event_of_request hr hv hp, events_add 1 ht, hquiet, events_succ 0 hrelease,
    event_of_response hr_t hdone hy, hrsp]
  rfl

/-! The requests of a run against its responses. -/

/-- The responses the unit still owes in a state: EXEC of REQ in BUSY, RSP in DONE. -/
def State.pending (s : State) : List (Option DWord) :=
  match s.phase with
  | .idle => []
  | .busy => (s.req.map (responseValue s.table)).toList
  | .done => [s.rsp]

theorem pending_of_idle {s : State} (hp : s.phase = .idle) : s.pending = [] := by
  rw [State.pending, hp]

theorem pending_of_busy {s : State} {r : Request} (hp : s.phase = .busy) (hq : s.req = some r) :
    s.pending = [responseValue s.table r] := by
  rw [State.pending, hp, hq]
  rfl

theorem pending_of_done {s : State} (hp : s.phase = .done) : s.pending = [s.rsp] := by
  rw [State.pending, hp]

theorem pending_length_le (s : State) : s.pending.length ≤ 1 := by
  cases hp : s.phase with
  | idle => simp [pending_of_idle hp]
  | busy =>
    cases hq : s.req with
    | none => simp [State.pending, hp, hq]
    | some r => simp [pending_of_busy hp hq]
  | done => simp [pending_of_done hp]

/-- The events `es` since the last reset fit the state: EXEC of the requests are the responses and what is pending (R35). -/
def Answers (es : List Event) (s : State) : Prop :=
  (requestsOf es).map (responseValue s.table) = responsesOf es ++ s.pending

theorem requestsOf_append (es fs : List Event) : requestsOf (es ++ fs) = requestsOf es ++ requestsOf fs := by
  induction es with
  | nil => rfl
  | cons e es ih => cases e <;> simp [requestsOf, ih]

theorem responsesOf_append (es fs : List Event) : responsesOf (es ++ fs) = responsesOf es ++ responsesOf fs := by
  induction es with
  | nil => rfl
  | cons e es ih => cases e <;> simp [responsesOf, ih]

theorem sinceReset_cons (acc : List Event) (e : Event) (es : List Event) :
    sinceReset acc (e :: es) = sinceReset (sinceReset acc [e]) es := by
  cases e <;> rfl

theorem Answers.reset {s : State} : Answers [] s.takeReset := rfl

/-- An event that transfers nothing leaves the account as it is, if it leaves the table and what is pending. -/
theorem Answers.quiet {es : List Event} {s t : State} (h : Answers es s) (htable : t.table = s.table)
    (hpending : t.pending = s.pending) : Answers (es ++ [.quiet]) t := by
  rw [Answers, requestsOf_append, responsesOf_append, htable, hpending]
  simpa [Answers, requestsOf, responsesOf] using h

/-- A request transfer adds its EXEC to what is pending. -/
theorem Answers.request {es : List Event} {s : State} (h : Answers es s) (hp : s.phase = .idle) (r : Request) :
    Answers (es ++ [.request r]) (s.acceptRequest r) := by
  have hanswers : (requestsOf es).map (responseValue s.table) = responsesOf es := by
    simpa [Answers, pending_of_idle hp] using h
  rw [Answers, requestsOf_append, responsesOf_append,
    pending_of_busy (State.acceptRequest_phase s r) (State.acceptRequest_req s r)]
  simp [requestsOf, responsesOf, hanswers]

/-- A response transfer hands over what is pending. -/
theorem Answers.response {es : List Event} {s : State} (h : Answers es s) (hp : s.phase = .done) :
    Answers (es ++ [.response s.rsp]) s.releaseResponse := by
  rw [Answers, requestsOf_append, responsesOf_append, pending_of_idle (State.releaseResponse_phase s)]
  simpa [Answers, requestsOf, responsesOf, pending_of_done hp] using h

/-- One edge keeps the account of the requests and the responses since the last reset. -/
theorem Answers.step {es : List Event} {s t : State} (hans : Answers es s) (h : step s = .next t) :
    Answers (sinceReset es [s.event]) t := by
  have hpass : Answers es (s.passEdge s.sampled) := hans
  cases step_cases h with
  | reset hr => rw [event_of_reset hr]; exact .reset
  | accept hr _ hp hv => rw [event_of_request hr hv hp]; exact hpass.request hp _
  | idle hr _ hp hv =>
    rw [event_of_no_transfer hr (by simp [requestTransfer_iff, hv]) (by simp [responseTransfer_iff, hp])]
    exact hans.quiet rfl rfl
  | wait hr _ hp => rw [event_of_busy hr hp]; exact hans.quiet rfl rfl
  | complete r i v hr _ hp _ hq =>
    have hv : some v = responseValue s.table r := step_busy_done_rsp hp hq h rfl
    rw [event_of_busy hr hp]
    exact hans.quiet rfl (by rw [pending_of_done (State.complete_phase _ v), State.complete_rsp, hv,
      pending_of_busy hp hq])
  | release hr _ hp hy => rw [event_of_response hr hp hy]; exact hpass.response hp
  | offer hr _ hp hy =>
    rw [event_of_no_transfer hr (by simp [requestTransfer_iff, hp]) (by simp [responseTransfer_iff, hy])]
    exact hans.quiet rfl rfl

theorem Answers.runFor {k : Nat} {es : List Event} {s t : State} (hans : Answers es s) (h : runFor k s = .next t) :
    Answers (sinceReset es (events k s)) t := by
  induction k generalizing s es with
  | zero => cases h; exact hans
  | succ k ih =>
    obtain ⟨u, hu, ht⟩ := runFor_succ_next h
    rw [events_succ k hu, sinceReset_cons]
    exact ih (hans.step hu) ht

/-- From IDLE the account starts empty. -/
theorem answers_of_idle {s : State} (hp : s.phase = .idle) : Answers [] s := by
  rw [Answers, pending_of_idle hp]
  rfl

theorem Answers.length {es : List Event} {s : State} (h : Answers es s) :
    (requestsOf es).length = (responsesOf es).length + s.pending.length := by
  simpa [Answers] using congrArg List.length h

/-- Settles O48: the responses come first in the list of what was asked for, and at most one is pending after them. -/
theorem responsesFollowRequestsInOrder : Obligations.ResponsesFollowRequestsInOrder := by
  rintro s t k _ hp h es rfl
  have hans : Answers (sinceReset [] (events k s)) t := (answers_of_idle hp).runFor h
  have hlength := hans.length
  have hpending := pending_length_le t
  refine ⟨?in_order, by omega, by omega⟩
  case in_order =>
    rw [← tableIsNeverWritten k s t h, hans, List.take_left]

/-- Settles O49: in IDLE nothing is pending, so every request since the last reset has its response. -/
theorem runEndsWellExactlyInIdle : Obligations.RunEndsWellExactlyInIdle := by
  intro s k _ hp
  constructor
  · rintro ⟨t, h, ht, -⟩
    exact ⟨t, h, ht⟩
  · rintro ⟨t, h, ht⟩
    have hlength := ((answers_of_idle hp).runFor h).length
    exact ⟨t, h, ht, by simpa [pending_of_idle ht] using hlength⟩

end Sys2Proof.Machine
end

section
/-! SUPPORT. The completions of the three instructions (40_mul32.md, 41_clz.md, 42_rsqrt.md), settled: the responses as
natural numbers, and which table entries RSQRT depends on. -/

namespace Sys2Proof.Machine

/-- Settles O5: the product is exact, and `complete` has the frame of the statement. -/
theorem mul32CompletesWithExactProduct : Obligations.Mul32CompletesWithExactProduct :=
  fun a b s => ⟨product a b, product_toNat a b, exec_mul32 a b s⟩

/-- Settles O8: neither completion mentions `b`. -/
theorem operandBIsIgnored : Obligations.OperandBIsIgnored :=
  fun a b b' s => ⟨(exec_clz a b s).trans (exec_clz a b' s).symm, (exec_rsqrt a b s).trans (exec_rsqrt a b' s).symm⟩

/-- The highest set bit is the logarithm (R65, R67). -/
theorem log2_eq_of_highest {a : Word} {p : Nat} (hset : a.getLsbD p = true)
    (habove : ∀ q, p < q → a.getLsbD q = false) : a.toNat.log2 = p := by
  have hge : 2 ^ p ≤ a.toNat := Nat.ge_two_pow_of_testBit hset
  have hlt : a.toNat < 2 ^ (p + 1) := Nat.lt_pow_two_of_testBit _ habove
  exact (Nat.log2_eq_iff (Nat.two_pow_pos p |>.trans_le hge).ne').mpr ⟨hge, hlt⟩

/-- Settles O6: the highest set bit is the logarithm, which the count completes to 31. -/
theorem clzCompletesWithTheCount : Obligations.ClzCompletesWithTheCount := by
  refine fun a b s => ⟨packCount (countLeadingZeros a), ?zero, fun p _ hset habove => ?nonzero, packCount_high _,
    exec_clz a b s⟩
  case zero =>
    rintro rfl
    rw [countLeadingZeros_zero]
    rfl
  case nonzero =>
    have hne : a ≠ 0 := by rintro rfl; simp at hset
    have hsum := log2_add_countLeadingZeros hne
    rw [log2_eq_of_highest hset habove] at hsum
    rw [packCount_toNat]
    omega

/-! Each step of the pseudocode on words is the step on naturals (R74 to R84). -/

theorem lutRead_toNat (t : Rom) (e : BitVec 5) : (lutRead t e).toNat = entryNat t e.toNat := by
  rw [entryNat, BitVec.ofNat_toNat, BitVec.setWidth_eq]

theorem nextIndex_toNat {e : BitVec 5} (h : e.toNat < 31) : (e + 1).toNat = e.toNat + 1 := by
  rw [BitVec.toNat_add, show (1 : BitVec 5).toNat = 1 from rfl]
  omega

theorem nextEntry_toNat (t : Rom) (e : BitVec 5) :
    (nextEntry t e).toNat = if e.toNat < 31 then entryNat t (e.toNat + 1) else 0 := by
  split
  · next h => rw [nextEntry_of_lt t h, lutRead_toNat, nextIndex_toNat h]
  · next h => rw [nextEntry, if_neg h]; rfl

theorem word_sub_toNat (a b : Word) : (a - b).toNat = (2 ^ 32 + a.toNat - b.toNat) % 2 ^ 32 := by
  rw [BitVec.toNat_sub]
  omega

theorem low32_product_ushiftRight_toNat (a b : Word) (k : Nat) :
    (low32 (product a b >>> k)).toNat = a.toNat * b.toNat / 2 ^ k % 2 ^ 32 := by
  rw [low32_toNat, product_ushiftRight_toNat]

theorem estimate_of_not_interpolates (t : Rom) {x : Word} (h : ¬ interpolates x = true) :
    estimate t x = lutRead t (exponent x) := if_neg h

/-- The estimate on naturals (R74 to R80). -/
theorem estimate_toNat (t : Rom) {x : Word} (h : x ≠ 0) : (estimate t x).toNat = estimateNat (entryNat t) x.toNat := by
  have hexp : (exponent x).toNat = x.toNat.log2 := exponent_toNat h
  have hfrac : (fraction x (exponent x)).toNat =
      (x.toNat - 2 ^ (exponent x).toNat) * 2 ^ 16 / 2 ^ (exponent x).toNat % 2 ^ 32 := by
    rw [fraction_toNat h, Nat.mod_eq_of_lt ((scaledDistance_div_lt h).trans (by decide))]
  by_cases hruns : interpolates x = true
  · have hx : 2 ^ (exponent x).toNat < x.toNat := (interpolates_iff x).mp hruns
    rw [estimate_of_interpolates t hruns, word_sub_toNat, correction, low32_product_ushiftRight_toNat, entryDelta,
      word_sub_toNat, nextEntry_toNat, lutRead_toNat, hfrac, hexp]
    rw [hexp] at hx
    simp only [estimateNat, if_pos hx]
  · have hx : ¬ 2 ^ (exponent x).toNat < x.toNat := fun hx => hruns ((interpolates_iff x).mpr hx)
    rw [hexp] at hx
    rw [estimate_of_not_interpolates t hruns, lutRead_toNat, hexp, estimateNat, if_neg hx]

/-- One Newton iteration on naturals (R81 to R83). -/
theorem newtonStep_toNat (x y : Word) : (newtonStep x y).toNat = newtonNat x.toNat y.toNat := by
  have hsquare : (newtonY2 y).toNat = y.toNat * y.toNat % 2 ^ 32 := by rw [newtonY2, low32_toNat, product_toNat]
  rw [newtonStep, low32_product_ushiftRight_toNat, newtonFactor, word_sub_toNat, newtonXy2,
    low32_product_ushiftRight_toNat, hsquare]
  rfl

theorem ne_zero_of_two_le {x : Word} (h : 2 ≤ x.toNat) : x ≠ 0 := ne_zero_of_toNat_pos (Nat.zero_lt_of_lt h)

/-- From 2 on index 0 is out of reach (R43). -/
theorem one_le_exponent {x : Word} (h : 2 ≤ x.toNat) : 1 ≤ (exponent x).toNat := by
  rw [exponent_toNat (ne_zero_of_two_le h)]
  exact (Nat.le_log2 (k := 1) (Nat.ne_zero_of_lt h)).mpr h

theorem rsqrt_of_two_le (t : Rom) {x : Word} (h : 2 ≤ x.toNat) :
    rsqrt t x = newtonStep x (newtonStep x (estimate t x)) := by
  have h1 : x ≠ 1 := by rintro rfl; exact absurd h (by decide)
  rw [rsqrt, if_neg (ne_zero_of_two_le h), if_neg h1]

/-- An operand of RSQRT is one of the two special ones or at least 2 (R72, R73). -/
theorem special_or_two_le (x : Word) : x = 0 ∨ x = 1 ∨ 2 ≤ x.toNat := by
  have h0 : x = 0 ↔ x.toNat = 0 := BitVec.toNat_inj.symm
  have h1 : x = 1 ↔ x.toNat = 1 := BitVec.toNat_inj.symm
  rw [h0, h1]
  omega

theorem rsqrt_toNat (t : Rom) (x : Word) : (rsqrt t x).toNat = rsqrtNat (entryNat t) x.toNat := by
  rcases special_or_two_le x with rfl | rfl | h
  · rw [rsqrt_zero]; rfl
  · rw [rsqrt_one]; rfl
  · rw [rsqrt_of_two_le t h, newtonStep_toNat, newtonStep_toNat, estimate_toNat t (ne_zero_of_two_le h), rsqrtNat,
      if_neg (by omega), if_neg (by omega)]

theorem zext64_high (w : Word) : (zext64 w).extractLsb' 32 32 = 0 := by
  apply BitVec.eq_of_toNat_eq
  rw [BitVec.extractLsb'_toNat, zext64_toNat, Nat.shiftRight_eq_zero _ _ w.isLt]
  rfl

/-- Settles O7: the result on words is the pseudocode's on naturals, and the upper half is zero. -/
theorem rsqrtCompletesWithThePseudocodeValue : Obligations.RsqrtCompletesWithThePseudocodeValue :=
  fun a b s => ⟨zext64 (rsqrt s.table a), (zext64_toNat _).trans (rsqrt_toNat s.table a), zext64_high _,
    exec_rsqrt a b s⟩

/-- The estimate depends on the table by its entry and the next entry only (R75 to R80). -/
theorem estimate_congr {t u : Rom} {x : Word} (hentry : lutRead t (exponent x) = lutRead u (exponent x))
    (hnext : nextEntry t (exponent x) = nextEntry u (exponent x)) : estimate t x = estimate u x := by
  simp only [estimate, correction, entryDelta, hentry, hnext]

/-- Settles O18: for x ≥ 2 the exponent is at least 1, so neither index is 0. -/
theorem rsqrtReadsOnlyTwoEntries : Obligations.RsqrtReadsOnlyTwoEntries := by
  intro t u x hagree
  rcases special_or_two_le x with rfl | rfl | h
  · rw [rsqrt_zero, rsqrt_zero]
  · rw [rsqrt_one, rsqrt_one]
  · have hexp := exponent_toNat (ne_zero_of_two_le h)
    have hentry : lutRead t (exponent x) = lutRead u (exponent x) := hagree _ (one_le_exponent h) (.inl hexp)
    have hnext : nextEntry t (exponent x) = nextEntry u (exponent x) := by
      by_cases htop : (exponent x).toNat < 31
      · have hindex := nextIndex_toNat htop
        rw [nextEntry_of_lt t htop, nextEntry_of_lt u htop]
        exact hagree _ (by omega) (.inr (hindex.trans (congrArg (· + 1) hexp)))
      · rw [nextEntry, nextEntry, if_neg htop, if_neg htop]
    rw [rsqrt_of_two_le t h, rsqrt_of_two_le u h, estimate_congr hentry hnext]

end Sys2Proof.Machine
end

section
/-! SUPPORT. The table as a parameter (10_state.md R21) and the interpolation over a well-formed table (42_rsqrt.md R78,
R80), settled: the order check compares every two entries, so the next entry is below the entry. -/

namespace Sys2Proof

theorem strictlyDecreasing_iff_isChain (l : List Nat) : strictlyDecreasing l = true ↔ l.IsChain (· > ·) := by
  induction l using strictlyDecreasing.induct with
  | case1 => simp [strictlyDecreasing]
  | case2 a => simp [strictlyDecreasing]
  | case3 a b rest ih => simp [strictlyDecreasing, ih]

/-- The check of neighbours orders every two entries (R21). -/
theorem strictlyDecreasing_iff (l : List Nat) : strictlyDecreasing l = true ↔
    ∀ (i j : Nat) (_ : i < j) (hj : j < l.length), l[j] < l[i] := by
  rw [strictlyDecreasing_iff_isChain, List.isChain_iff_pairwise, List.pairwise_iff_getElem]
  exact ⟨fun h i j hij hj => h i j (hij.trans hj) hj hij, fun h i j _ hj hij => h i j hij hj⟩

/-- R21's three checks in words. -/
theorem tableWf_iff (raw : List Nat) : tableWf raw = true ↔ raw.length = 32 ∧ (∀ n ∈ raw, n < 2 ^ 32) ∧
    ∀ (i j : Nat) (_ : i < j) (hj : j < raw.length), raw[j] < raw[i] := by
  simp only [tableWf, Bool.and_eq_true, strictlyDecreasing_iff, tableLengthOk, tableEntriesOk, beq_iff_eq,
    List.all_eq_true, decide_eq_true_eq, and_assoc]

/-- The ROM that is filled with the entries of a list. -/
def romOfEntries (raw : List Nat) : Rom := Vector.ofFn fun i => BitVec.ofNat 32 (raw.getD i.val 0)

theorem romOfTable_of_tableWf {raw : List Nat} (h : tableWf raw = true) : romOfTable raw = some (romOfEntries raw) :=
  if_pos h

theorem romOfTable_of_not_tableWf {raw : List Nat} (h : ¬ tableWf raw = true) : romOfTable raw = none := if_neg h

/-- Entries that fit in 32 bits are what the ROM holds (R21). -/
theorem romOfEntries_toList {raw : List Nat} (hlen : raw.length = 32) (hfit : ∀ n ∈ raw, n < 2 ^ 32) :
    (romOfEntries raw).toList.map BitVec.toNat = raw := by
  apply List.ext_getElem
  · simp [hlen]
  · intro i _ hi
    simpa [romOfEntries, hi] using hfit _ (List.getElem_mem hi)

end Sys2Proof

namespace Sys2Proof.Machine

/-- Entry `i` of the ROM as a member of the list that R21 checks. -/
theorem toList_getElem_eq_lutRead (t : Rom) (i : BitVec 5) (hi : i.toNat < (t.toList.map BitVec.toNat).length) :
    (t.toList.map BitVec.toNat)[i.toNat] = (lutRead t i).toNat := by
  simp [lutRead, Vector.get_eq_getElem]

/-- In a well-formed table a later entry is a smaller one (R21). -/
theorem lutRead_lt_of_wf {t : Rom} (hw : t.wf = true) {i j : BitVec 5} (hij : i.toNat < j.toNat) :
    (lutRead t j).toNat < (lutRead t i).toNat := by
  have hj : j.toNat < (t.toList.map BitVec.toNat).length := by simpa using j.isLt
  have hlt := (strictlyDecreasing_iff _).mp hw i.toNat j.toNat hij hj
  rwa [toList_getElem_eq_lutRead, toList_getElem_eq_lutRead] at hlt

theorem step_of_not_tableWf {s : State} (hw : ¬ s.table.wf = true) : step s = .refused .malformedTable := by
  rw [step, edge, if_neg hw]

/-- Settles O27: the three checks are the statement's conditions; a unit with two entries out of order fails them. -/
theorem tableParameterIsChecked : Obligations.TableParameterIsChecked := by
  refine ⟨fun raw => ⟨fun h => ?taken, fun h => ?refused⟩, fun s i j hij hle => ?unordered⟩
  case taken =>
    have hwf : tableWf raw = true := (tableWf_iff raw).mpr h
    obtain ⟨hlen, hfit, horder⟩ := h
    have hentries := romOfEntries_toList hlen hfit
    refine ⟨romOfEntries raw, ?_, hentries, ?_⟩
    · rw [State.launch, romOfTable_of_tableWf hwf]
    · rw [Rom.wf, hentries]
      exact (strictlyDecreasing_iff raw).mpr horder
  case refused =>
    rw [State.launch, romOfTable_of_not_tableWf fun hwf => h ((tableWf_iff raw).mp hwf)]
  case unordered =>
    exact step_of_not_tableWf fun hw => Nat.not_lt.mpr hle (lutRead_lt_of_wf hw hij)

/-- The next entry is below the entry, unless both are the 0 at the top of the table (R77, R78; Log 11). -/
theorem nextEntry_lt_entry {t : Rom} (hw : t.wf = true) {e : BitVec 5} (htop : e.toNat < 31 ∨ lutRead t 31 ≠ 0) :
    (nextEntry t e).toNat < (lutRead t e).toNat := by
  by_cases h : e.toNat < 31
  · rw [nextEntry_of_lt t h]
    exact lutRead_lt_of_wf hw (by rw [nextIndex_toNat h]; exact Nat.lt_succ_self _)
  · have he : e.toNat = 31 := by omega
    obtain rfl : e = 31 := BitVec.eq_of_toNat_eq he
    rw [nextEntry_of_top t he]
    exact BitVec.toNat_pos_of_ne_zero (htop.resolve_left h)

/-- The fraction is below 2^16, so the correction stays below a delta that is not 0 (R80). -/
theorem correction_lt_delta (t : Rom) {x : Word} (h : x ≠ 0) (hd : 0 < (entryDelta t (exponent x)).toNat) :
    (correction t x).toNat < (entryDelta t (exponent x)).toNat := by
  rw [correction_toNat t h]
  apply Nat.div_lt_of_lt_mul
  rw [Nat.mul_comm (2 ^ 16)]
  exact Nat.mul_lt_mul_of_pos_left (fraction_toNat_lt h) hd

/-- Settles O19: delta is the gap to a smaller entry, and the correction is below delta. -/
theorem correctionIsBelowTheEstimate : Obligations.CorrectionIsBelowTheEstimate := by
  rintro t x _ hw hx rfl hruns htop
  have hne : x ≠ 0 := ne_zero_of_two_le hx
  have hnext := nextEntry_lt_entry hw htop
  have hdelta : (entryDelta t (exponent x)).toNat =
      (lutRead t (exponent x)).toNat - (nextEntry t (exponent x)).toNat := BitVec.toNat_sub_of_le hnext.le
  have hcorr := correction_lt_delta t hne (by omega)
  have hest : (estimate t x).toNat = (lutRead t (exponent x)).toNat - (correction t x).toNat := by
    rw [estimate_of_interpolates t ((interpolates_iff x).mpr hruns)]
    exact BitVec.toNat_sub_of_le (BitVec.le_def.mpr (by omega))
  exact ⟨hdelta, by omega, hcorr, by omega, hest, by omega⟩

/-- Settles O20: the default table with its last entry set to 0. -/
theorem deltaCanBeZeroAtTheTop : Obligations.DeltaCanBeZeroAtTheTop := by
  refine ⟨defaultTable.set 31 0, ?ordered, ?last, ?delta, ?estimate⟩
  case ordered => decide
  case last => decide
  case delta => decide
  case estimate => decide

end Sys2Proof.Machine
end

section
/-! SUPPORT. RSQRT over the default table (42_rsqrt.md section 7), settled. The estimate meets the bounds of `NewtonInput`,
each Newton iteration keeps them, and under them no truncation drops a bit. That an iteration keeps them is the inequality
of the means: with P = x * y^2 it gives P * (Q - P)^2 / 2^66, which is at most 4 * Q^3 / 27 / 2^66 for Q = 3 * 2^32 + 2^16. -/

namespace Sys2Proof.Machine

/-- What a Newton iteration needs of its operand and its input: no product overflows, the factor does not wrap, and the
result is not 0 (R81 to R83). -/
structure NewtonInput (x y : Word) : Prop where
  pos    : 1 ≤ y.toNat
  le     : y.toNat ≤ 46341
  square : x.toNat * (y.toNat * y.toNat) ≤ 9 * 2 ^ 30
  small  : y.toNat = 2 → x.toNat ≤ 2 ^ 31

namespace NewtonInput

variable {x y : Word} (h : NewtonInput x y)
include h

/-- The square fits in 32 bits (R81). -/
theorem y2_toNat : (newtonY2 y).toNat = y.toNat * y.toNat := by
  have hfits : y.toNat * y.toNat ≤ 46341 * 46341 := Nat.mul_le_mul h.le h.le
  rw [newtonY2, low32_toNat, product_toNat, Nat.mod_eq_of_lt (hfits.trans_lt (by decide))]

/-- The bound on the scaled product is a quarter below the 3 of the factor (R82). -/
theorem scaled_le : x.toNat * (y.toNat * y.toNat) / 2 ^ 16 ≤ 9 * 2 ^ 14 :=
  Nat.div_le_of_le_mul (h.square.trans_eq (by decide))

theorem xy2_toNat : (newtonXy2 x y).toNat = x.toNat * (y.toNat * y.toNat) / 2 ^ 16 := by
  rw [newtonXy2, low32_product_ushiftRight_toNat, h.y2_toNat, Nat.mod_eq_of_lt (h.scaled_le.trans_lt (by decide))]

theorem xy2_le : (newtonXy2 x y).toNat ≤ 9 * 2 ^ 14 := h.xy2_toNat.trans_le h.scaled_le

/-- The subtraction does not wrap (R83). -/
theorem factor_toNat : (newtonFactor x y).toNat = 0x00030000 - (newtonXy2 x y).toNat :=
  BitVec.toNat_sub_of_le (BitVec.le_def.mpr (h.xy2_le.trans (by decide)))

/-- The scaled product and the factor add up to 3 * 2^16 (R83). -/
theorem scaled_add_factor : x.toNat * (y.toNat * y.toNat) / 2 ^ 16 + (newtonFactor x y).toNat = 3 * 2 ^ 16 := by
  have hscaled := h.scaled_le
  rw [h.factor_toNat, h.xy2_toNat]
  omega

theorem step_toNat : (newtonStep x y).toNat = y.toNat * (newtonFactor x y).toNat / 2 ^ 17 := by
  have hsum := h.scaled_add_factor
  have hprod : y.toNat * (newtonFactor x y).toNat ≤ 46341 * (3 * 2 ^ 16) := Nat.mul_le_mul h.le (by omega)
  rw [newtonStep, low32_product_ushiftRight_toNat, Nat.mod_eq_of_lt (by omega)]

/-- A large `y` has a factor of at least 3 * 2^14; at 2 and at 1 the operand is small enough for a larger one. -/
theorem step_pos : 1 ≤ (newtonStep x y).toNat := by
  have hsum := h.scaled_add_factor
  have hscaled := h.scaled_le
  have hpos := h.pos
  rw [h.step_toNat]
  apply (Nat.one_le_div_iff (Nat.two_pow_pos 17)).mpr
  obtain hy | hy | hy : y.toNat = 1 ∨ y.toNat = 2 ∨ 3 ≤ y.toNat := by omega
  · have hx := x.isLt
    rw [hy] at hsum ⊢
    omega
  · have hx := h.small hy
    rw [hy] at hsum ⊢
    omega
  · exact (Nat.mul_le_mul hy (by omega : 3 * 2 ^ 14 ≤ (newtonFactor x y).toNat)).trans' (by decide)

end NewtonInput

/-- The inequality of the means for one number and two equal ones. -/
theorem mul_sq_le_cube (a b : Nat) : 27 * (a * b ^ 2) ≤ 4 * (a + b) ^ 3 := by
  zify
  have hgap : (0 : ℤ) ≤ ((b : ℤ) - 2 * a) ^ 2 * (4 * b + a) := by positivity
  linear_combination hgap

/-- The new `y` is at most the quotient, so its scaled square is at most that of the quotient (R83). -/
theorem NewtonInput.step_square_scaled_le {x y : Word} (h : NewtonInput x y) :
    x.toNat * ((newtonStep x y).toNat * (newtonStep x y).toNat) * 2 ^ 34 ≤
      x.toNat * (y.toNat * y.toNat) * (newtonFactor x y).toNat ^ 2 := by
  have hstep : (newtonStep x y).toNat * 2 ^ 17 ≤ y.toNat * (newtonFactor x y).toNat := by
    rw [h.step_toNat]
    exact Nat.div_mul_le_self _ _
  calc x.toNat * ((newtonStep x y).toNat * (newtonStep x y).toNat) * 2 ^ 34
    _ = x.toNat * ((newtonStep x y).toNat * 2 ^ 17) ^ 2 := by ring
    _ ≤ x.toNat * (y.toNat * (newtonFactor x y).toNat) ^ 2 := Nat.mul_le_mul_left _ (Nat.pow_le_pow_left hstep 2)
    _ = x.toNat * (y.toNat * y.toNat) * (newtonFactor x y).toNat ^ 2 := by ring

/-- After an iteration `x * y^2` is within 2^-15 of 2^32 from above, whatever it was before. -/
theorem NewtonInput.step_square {x y : Word} (h : NewtonInput x y) :
    x.toNat * ((newtonStep x y).toNat * (newtonStep x y).toNat) ≤ 2 ^ 32 + 2 ^ 17 := by
  have hscaled := h.step_square_scaled_le
  have hsum := h.scaled_add_factor
  generalize (newtonFactor x y).toNat = s at *
  generalize hP : x.toNat * (y.toNat * y.toNat) = P at *
  have hP_lt : P ≤ 2 ^ 16 * (P / 2 ^ 16 + 1) := (Nat.lt_mul_div_succ P (Nat.two_pow_pos 16)).le
  have hmeans : 27 * ((P / 2 ^ 16 + 1) * s ^ 2) ≤ 4 * (3 * 2 ^ 16 + 1) ^ 3 :=
    (mul_sq_le_cube (P / 2 ^ 16 + 1) s).trans_eq (by rw [← hsum]; ring)
  have hbound : 27 * (P * s ^ 2) ≤ 2 ^ 16 * (4 * (3 * 2 ^ 16 + 1) ^ 3) :=
    calc 27 * (P * s ^ 2)
      _ ≤ 27 * (2 ^ 16 * (P / 2 ^ 16 + 1) * s ^ 2) := by gcongr
      _ = 2 ^ 16 * (27 * ((P / 2 ^ 16 + 1) * s ^ 2)) := by ring
      _ ≤ 2 ^ 16 * (4 * (3 * 2 ^ 16 + 1) ^ 3) := Nat.mul_le_mul_left _ hmeans
  omega

/-- An iteration gives an input of the next one (R84). -/
theorem NewtonInput.step {x y : Word} (h : NewtonInput x y) (hx : 2 ≤ x.toNat) : NewtonInput x (newtonStep x y) := by
  have hsquare := h.step_square
  refine ⟨h.step_pos, ?le, hsquare.trans (by decide), fun htwo => ?small⟩
  case le =>
    by_contra hgt
    have hge : 46342 * 46342 ≤ (newtonStep x y).toNat * (newtonStep x y).toNat :=
      Nat.mul_le_mul (Nat.lt_of_not_le hgt) (Nat.lt_of_not_le hgt)
    have hprod := Nat.mul_le_mul hx hge
    omega
  case small =>
    rw [htwo] at hsquare
    omega

/-! The estimate. -/

theorem defaultTable_wf : defaultTable.wf = true := by decide

/-- The default entries against the operands of their band: what `NewtonInput` asks for at the end of the band (R22). -/
theorem defaultTable_entry_bounds (e : BitVec 5) (he : 1 ≤ e.toNat) :
    1 ≤ (lutRead defaultTable e).toNat ∧ (lutRead defaultTable e).toNat ≤ 46341 ∧
    2 ^ (e.toNat + 1) * ((lutRead defaultTable e).toNat * (lutRead defaultTable e).toNat) ≤ 9 * 2 ^ 30 ∧
    (2 ≤ (lutRead defaultTable e).toNat → e.toNat + 1 ≤ 31) := by
  revert e
  decide

/-- The estimate lies between 1 and the entry of the band (R75 to R80). -/
theorem defaultEstimate_bounds {x : Word} (hx : 2 ≤ x.toNat) : 1 ≤ (estimate defaultTable x).toNat ∧
    (estimate defaultTable x).toNat ≤ (lutRead defaultTable (exponent x)).toNat := by
  by_cases hruns : interpolates x = true
  · obtain ⟨-, -, -, -, hest, hpos⟩ := correctionIsBelowTheEstimate defaultTable x _ defaultTable_wf hx rfl
      ((interpolates_iff x).mp hruns) (.inr (by decide))
    exact ⟨hpos, hest.trans_le (Nat.sub_le _ _)⟩
  · rw [estimate_of_not_interpolates _ hruns]
    exact ⟨(defaultTable_entry_bounds _ (one_le_exponent hx)).1, le_rfl⟩

theorem newtonInput_estimate {x : Word} (hx : 2 ≤ x.toNat) : NewtonInput x (estimate defaultTable x) := by
  have hband : x.toNat < 2 ^ ((exponent x).toNat + 1) := lt_two_pow_exponent_succ (ne_zero_of_two_le hx)
  obtain ⟨-, hentry, hsquare, hsmall⟩ := defaultTable_entry_bounds _ (one_le_exponent hx)
  obtain ⟨hpos, hle⟩ := defaultEstimate_bounds hx
  refine ⟨hpos, hle.trans hentry, (Nat.mul_le_mul hband.le (Nat.mul_le_mul hle hle)).trans hsquare, fun htwo => ?small⟩
  case small =>
    exact hband.le.trans (Nat.pow_le_pow_right Nat.two_pos (hsmall (htwo.symm.trans_le hle)))

/-- Settles O23: both iterations start from a `NewtonInput`. -/
theorem defaultNewtonDropsNoBit : Obligations.DefaultNewtonDropsNoBit := by
  intro x y hx hy
  have h : NewtonInput x y := by
    rcases hy with rfl | rfl
    · exact newtonInput_estimate hx
    · exact (newtonInput_estimate hx).step hx
  exact ⟨h.le, h.y2_toNat, h.xy2_toNat, h.xy2_le.trans (by decide), h.factor_toNat, h.step_toNat⟩

/-- After the two iterations the bounds still hold (R88 (a)). -/
theorem defaultRsqrt_bounds {x : Word} (hx : 2 ≤ x.toNat) :
    1 ≤ (rsqrt defaultTable x).toNat ∧ (rsqrt defaultTable x).toNat ≤ 46341 := by
  rw [rsqrt_of_two_le _ hx]
  have h := ((newtonInput_estimate hx).step hx).step hx
  exact ⟨h.pos, h.le⟩

/-- Settles O22: the two special results lie above the range of the others. -/
theorem defaultResultsAreInRange : Obligations.DefaultResultsAreInRange := by
  refine ⟨fun x => defaultRsqrt_bounds, fun x => ⟨fun h => ?sentinel, by rintro rfl; exact rsqrt_zero _⟩,
    fun x => ⟨fun h => ?one, by rintro rfl; exact rsqrt_one _⟩⟩
  case sentinel =>
    rcases special_or_two_le x with rfl | rfl | hx
    · rfl
    · rw [rsqrt_one] at h
      exact absurd h (by decide)
    · exact absurd (h ▸ (defaultRsqrt_bounds hx).2) (by decide)
  case one =>
    rcases special_or_two_le x with rfl | rfl | hx
    · rw [rsqrt_zero] at h
      exact absurd h (by decide)
    · rfl
    · exact absurd (h ▸ (defaultRsqrt_bounds hx).2) (by decide)

/-- Settles O25: a closed fact at the top operand and at each of the nine. -/
theorem rsqrtRisesAtNineOperands : Obligations.RsqrtRisesAtNineOperands := by
  refine ⟨?top, ?rises⟩
  case top => decide
  case rises =>
    simp only [List.mem_cons, List.not_mem_nil, or_false]
    rintro x (rfl | rfl | rfl | rfl | rfl | rfl | rfl | rfl | rfl) <;> decide

end Sys2Proof.Machine
end
